-- ==== Sys2Proof/Word.lean ====
section
/-! DEFINITION. The words of the block: the fixed widths of its registers and ports (10_state.md R22, R34).
`CNT` and `LOWCNT` have a width that is a parameter (`CNT_W`, R7); they are natural numbers (log 5). -/

namespace Sys2Proof

/-- `TS_W`: "width of `now_ms` and `LAST_T`", fixed at 32 by 00_scope.md R7. -/
abbrev tsW : Nat := 32

/-- `now_ms` and `LAST_T` (R32, R34). -/
abbrev Stamp := BitVec 32

/-- `SR`, `BUF` and the port `data` (R26, R27, R34). -/
abbrev Frame := BitVec 40

/-- `ST` and the port `dbg_state` (R21). -/
abbrev StateCode := BitVec 4

/-- `ERR` and the port `err` (R29). -/
abbrev ErrBits := BitVec 3

/-- `BITIDX` and the port `dbg_bitidx` (R25). -/
abbrev BitIndex := BitVec 6

/-- The command vector with `busy`, `rst req busy` (30_encoding.md R74). -/
abbrev CmdVector := BitVec 3

end Sys2Proof
end

