-- ==== Sys2Proof/Config.lean ====
section
/-! DEFINITION. What is fixed outside the block: its elaboration parameters (00_scope.md R7), the inputs of one cycle
(R9, R34), and the free values (R6: a model treats the inputs as draws). -/

namespace Sys2Proof

/-- The bit-decision strategy, "one value per instance" (R7, 92 D31). -/
inductive Strategy where
  /-- Relative-cycle comparison (41_capture.md R134). -/
  | A
  /-- Absolute-duration threshold (R135). -/
  | B
  deriving DecidableEq, Repr, Inhabited

/-- The parameters of R7: "fixed at elaboration; none is state and none changes while the block runs". `F_CLK` is left out
(R7: "no rule reads it", log 18). `TS_W` is `tsW`. The constraints of R7 are `Params.wf`. -/
structure Params where
  /-- `CACHE_EN`: the Reading Cache is present. -/
  cacheEn : Bool
  /-- `STRATEGY`. -/
  strategy : Strategy
  /-- `T_IDLE`, cycles of the settle phase. -/
  tIdle : Nat
  /-- `T_START`, cycles the line is driven low. -/
  tStart : Nat
  /-- `T_RELEASE`, cycles the line is driven high. -/
  tRelease : Nat
  /-- `T_TIMEOUT`, per-pulse timeout in samples. -/
  tTimeout : Nat
  /-- `THRESHOLD`, the calibration constant of strategy `B`. -/
  threshold : Nat
  /-- `T_MIN`, the throttle interval in units of `now_ms`. -/
  tMin : Nat
  /-- `CNT_W`, the width of `CNT` and `LOWCNT`. -/
  cntW : Nat
  deriving DecidableEq, Repr, Inhabited

/-- The common setting of 95_test_vectors.md §0: the only complete set of parameters the spec writes out. DESIGN CHOICE
that `State.reset` carries it (log 3). -/
def Params.common : Params :=
  { cacheEn := true, strategy := .A, tIdle := 3, tStart := 4, tRelease := 2, tTimeout := 16, threshold := 4,
    tMin := 2000, cntW := 5 }

/-- The inputs `I_n` of one cycle (R9, R34). -/
structure Inputs where
  rst : Bool
  req : Bool
  /-- `now_ms`. -/
  nowMs : Stamp
  /-- `dq_in`, the level of the data line at the pad. -/
  dqIn : Bool
  deriving DecidableEq, Repr, Inhabited

/-- FREE VALUE: the inputs of cycle n where none is scheduled. R6: "a model treats `dq_in` in every cycle as a free input (a
draw)", and so the rest (log 1). It covers the metastable sample of R31 and the contention level of R248. -/
opaque Config.freeInputs : Nat → Inputs

/-- FREE VALUE: the line level in cycle n while the pad drives high and the sensor pulls low, "unspecified" (R79, R248);
read by the stimulus notation only (log 14). -/
opaque Config.contentionLevel : Nat → Bool

end Sys2Proof
end

