-- ==== Sys2Proof/Syntax.lean ====
section
/-! DEFINITION. The instructions: one constructor per row of opcode_table.json. The rows have no operand fields; what a row
reads besides its selection (`now_ms`, `s`, registers) it reads from the cycle (30_encoding.md R73). -/

namespace Sys2Proof

/-- The two formats of the opcode table. -/
inductive Format where
  /-- The command vector `rst req busy`, 3 bits (30_encoding.md R74). -/
  | cmd
  /-- The state register `ST`, 4 bits (R75). -/
  | ustate
  deriving DecidableEq, Repr

/-- The rows of the opcode table. -/
inductive Instr where
  /-- `RST`, `1--` (70_reset_and_hazards.md R240). -/
  | rst
  /-- `NOP`, `00-` (40_handshake.md R101). -/
  | nop
  /-- `REQ_ACQUIRE`, `010` with `CACHE_EN` = 0 (R102). -/
  | reqAcquire
  /-- `REQ_SAMPLE`, hit: `010` with `CACHE_EN` = 1 and fresh (43_cache.md R182). -/
  | reqSampleHit
  /-- `REQ_SAMPLE`, miss: `010` with `CACHE_EN` = 1 and not fresh (R183). -/
  | reqSampleMiss
  /-- `REQ_IGNORED`, `011` (R103). -/
  | reqIgnored
  /-- `ST` = 0: decode the command vector (R100). -/
  | ready
  /-- `ST` = 1 (R104). -/
  | settle
  /-- `ST` = 2 (R105). -/
  | start
  /-- `ST` = 3 (R106). -/
  | release
  /-- `ST` = 4 (R107). -/
  | respLow
  /-- `ST` = 5 (R108). -/
  | respHigh
  /-- `ST` = 6 (R109). -/
  | respEnd
  /-- `ST` = 7 (41_capture.md R133). -/
  | bitLow
  /-- `ST` = 8 under `STRATEGY` = `A` (R134). -/
  | bitHighA
  /-- `ST` = 8 under `STRATEGY` = `B` (R135). -/
  | bitHighB
  /-- `ST` = 9 (42_check_commit.md R160). -/
  | check
  /-- `ST` = 10, unused (30_encoding.md R77). -/
  | reservedSt10
  /-- `ST` = 11, unused (R77). -/
  | reservedSt11
  /-- `ST` = 12, unused (R77). -/
  | reservedSt12
  /-- `ST` = 13, unused (R77). -/
  | reservedSt13
  /-- `ST` = 14, unused (R77). -/
  | reservedSt14
  /-- `ST` = 15, unused (R77). -/
  | reservedSt15
  deriving DecidableEq, Repr

/-- The format of an instruction's row. -/
def Instr.format : Instr → Format
  | .rst => .cmd
  | .nop => .cmd
  | .reqAcquire => .cmd
  | .reqSampleHit => .cmd
  | .reqSampleMiss => .cmd
  | .reqIgnored => .cmd
  | .ready => .ustate
  | .settle => .ustate
  | .start => .ustate
  | .release => .ustate
  | .respLow => .ustate
  | .respHigh => .ustate
  | .respEnd => .ustate
  | .bitLow => .ustate
  | .bitHighA => .ustate
  | .bitHighB => .ustate
  | .check => .ustate
  | .reservedSt10 => .ustate
  | .reservedSt11 => .ustate
  | .reservedSt12 => .ustate
  | .reservedSt13 => .ustate
  | .reservedSt14 => .ustate
  | .reservedSt15 => .ustate

end Sys2Proof
end

