-- ==== Sys2Proof/WellFormed.lean ====
section
/-! DEFINITION. Well-formed parameters (00_scope.md R7) and well-formed instructions: a row may carry a condition on the
parameters or on the freshness of the cached state (30_encoding.md R74, R75, the table's "condition"). -/

namespace Sys2Proof

/-- The ranges and the constraints of the table of R7. -/
def Params.wf (p : Params) : Bool :=
  decide (1 ≤ p.tIdle) && decide (1 ≤ p.tStart) && decide (1 ≤ p.tRelease) && decide (1 ≤ p.tTimeout)
    && decide (1 ≤ p.tMin) && decide (p.tMin < 2 ^ tsW)
    && decide (p.tIdle ≤ 2 ^ p.cntW) && decide (p.tStart ≤ 2 ^ p.cntW) && decide (p.tRelease ≤ 2 ^ p.cntW)
    && decide (p.tTimeout ≤ 2 ^ p.cntW) && decide (p.threshold + 1 ≤ 2 ^ p.cntW)

/-- What selects among the rows that share a pattern: `CACHE_EN` and freshness for the command `010` (R74, R182, R183),
`STRATEGY` for `ST` = 8 (R75). -/
structure SelectCtx where
  cacheEn : Bool
  strategy : Strategy
  /-- `fresh(now_ms)` of 43_cache.md R181. -/
  fresh : Bool
  deriving DecidableEq, Repr

/-- The row's condition in opcode_table.json holds. -/
def Instr.wf (c : SelectCtx) : Instr → Bool
  | .rst => true
  | .nop => true
  | .reqAcquire => !c.cacheEn
  | .reqSampleHit => c.cacheEn && c.fresh
  | .reqSampleMiss => c.cacheEn && !c.fresh
  | .reqIgnored => true
  | .ready => true
  | .settle => true
  | .start => true
  | .release => true
  | .respLow => true
  | .respHigh => true
  | .respEnd => true
  | .bitLow => true
  | .bitHighA => c.strategy == .A
  | .bitHighB => c.strategy == .B
  | .check => true
  | .reservedSt10 => true
  | .reservedSt11 => true
  | .reservedSt12 => true
  | .reservedSt13 => true
  | .reservedSt14 => true
  | .reservedSt15 => true

end Sys2Proof
end

