-- ==== Sys2Proof/Decode.lean ====
section
/-! DEFINITION. The encodings of 30_encoding.md: the state codes (R75), the error codes (R76), the decoder of the two formats
(R74, R75), total on any bytes and rejecting by name, and after it the encoder. -/

namespace Sys2Proof

/-! ## State codes (R75) -/

@[simp] abbrev St.ready : StateCode := 0#4
@[simp] abbrev St.settle : StateCode := 1#4
@[simp] abbrev St.start : StateCode := 2#4
@[simp] abbrev St.release : StateCode := 3#4
@[simp] abbrev St.respLow : StateCode := 4#4
@[simp] abbrev St.respHigh : StateCode := 5#4
@[simp] abbrev St.respEnd : StateCode := 6#4
@[simp] abbrev St.bitLow : StateCode := 7#4
@[simp] abbrev St.bitHigh : StateCode := 8#4
@[simp] abbrev St.check : StateCode := 9#4

/-- R77 b: "`ST` values 10 to 15 are unused". -/
def St.reserved (v : StateCode) : Bool := decide (9 < v.toNat)

/-! ## Error codes (R76) -/

/-- The four failures of 60_exceptions.md R200. -/
inductive FailCode where
  | noStartLow
  | noStartHigh
  | bitTimeout
  | checksum
  deriving DecidableEq, Repr

/-- `NONE`. -/
@[simp] abbrev Err.none : ErrBits := 0#3

/-- The value of `ERR` for a failure (R76). -/
def FailCode.bits : FailCode → ErrBits
  | .noStartLow => 1#3
  | .noStartHigh => 2#3
  | .bitTimeout => 3#3
  | .checksum => 4#3

/-- R77 a: "`ERR` values 5, 6 and 7 are reserved". -/
def Err.reserved (v : ErrBits) : Bool := decide (4 < v.toNat)

/-- R77 c: "`BITIDX` values 41 to 63 are never reached". -/
def BitIdx.reserved (v : BitIndex) : Bool := decide (40 < v.toNat)

/-! ## The decoder -/

/-- The command vector `rst req busy`: bit 2, bit 1, bit 0 (R74). -/
def cmdVector (rst req busy : Bool) : CmdVector :=
  BitVec.ofBool rst ++ BitVec.ofBool req ++ BitVec.ofBool busy

/-- R74: "each of the eight values of `{rst, req, busy}` selects exactly one command for each value of `CACHE_EN`". -/
def decodeCommand (c : SelectCtx) (v : CmdVector) : Instr :=
  if v.getLsbD 2 then .rst
  else if !v.getLsbD 1 then .nop
  else if v.getLsbD 0 then .reqIgnored
  else if !c.cacheEn then .reqAcquire
  else if c.fresh then .reqSampleHit
  else .reqSampleMiss

/-- R75 and R77 b: the row an `ST` value selects. The last arm is the value 15. -/
def decodeState (strategy : Strategy) (v : StateCode) : Instr :=
  match v.toNat with
  | 0 => .ready
  | 1 => .settle
  | 2 => .start
  | 3 => .release
  | 4 => .respLow
  | 5 => .respHigh
  | 6 => .respEnd
  | 7 => .bitLow
  | 8 =>
    match strategy with
    | .A => .bitHighA
    | .B => .bitHighB
  | 9 => .check
  | 10 => .reservedSt10
  | 11 => .reservedSt11
  | 12 => .reservedSt12
  | 13 => .reservedSt13
  | 14 => .reservedSt14
  | _ => .reservedSt15

/-- Why bytes are no word of a format. -/
inductive DecodeError where
  /-- No byte at all. -/
  | noWord
  /-- More than the one byte that either format fits in. -/
  | extraBytes
  /-- A bit above the format's width is set. -/
  | bitsAboveWord
  deriving DecidableEq, Repr

/-- How many bits a word of the format has (R74, R75). -/
def Format.width : Format → Nat
  | .cmd => 3
  | .ustate => 4

/-- The decoder on bytes: a word of either format stands in the low bits of one byte. -/
def decodeBytes (c : SelectCtx) (f : Format) (bytes : List (BitVec 8)) : Except DecodeError Instr :=
  match bytes with
  | [] => .error .noWord
  | _ :: _ :: _ => .error .extraBytes
  | [b] =>
    if 2 ^ f.width ≤ b.toNat then .error .bitsAboveWord
    else
      match f with
      | .cmd => .ok (decodeCommand c (b.setWidth 3))
      | .ustate => .ok (decodeState c.strategy (b.setWidth 4))

/-! ## The encoder -/

/-- The word of an instruction, from the "encoding" column of the table. A don't-care bit (`RST` `1--`, `NOP` `00-`) is 0. -/
def encodeWord : Instr → BitVec 8
  | .rst => 0b100#8
  | .nop => 0b000#8
  | .reqAcquire => 0b010#8
  | .reqSampleHit => 0b010#8
  | .reqSampleMiss => 0b010#8
  | .reqIgnored => 0b011#8
  | .ready => 0b0000#8
  | .settle => 0b0001#8
  | .start => 0b0010#8
  | .release => 0b0011#8
  | .respLow => 0b0100#8
  | .respHigh => 0b0101#8
  | .respEnd => 0b0110#8
  | .bitLow => 0b0111#8
  | .bitHighA => 0b1000#8
  | .bitHighB => 0b1000#8
  | .check => 0b1001#8
  | .reservedSt10 => 0b1010#8
  | .reservedSt11 => 0b1011#8
  | .reservedSt12 => 0b1100#8
  | .reservedSt13 => 0b1101#8
  | .reservedSt14 => 0b1110#8
  | .reservedSt15 => 0b1111#8

/-- The bytes of an instruction. -/
def encode (i : Instr) : List (BitVec 8) := [encodeWord i]

/-! ## The table's words by number -/

/-- A row's word has no format bit, and the two formats use the same numbers. DESIGN CHOICE (log 10): a word of at most 3
bits is a command vector, a longer one an `ST` value. -/
def tableFormat (nbits : Nat) : Format := if nbits ≤ 3 then .cmd else .ustate

/-- The selection a bare table word is read under: the parameters of `State.reset` (log 3), and nothing fresh, as after
reset (43_cache.md R181: "`HAS_RUN` = 0 is never fresh"). -/
def tableCtx : SelectCtx :=
  { cacheEn := Params.common.cacheEn, strategy := Params.common.strategy, fresh := false }

/-- The bytes of an `nbits`-bit word, the first byte the least significant. -/
def tableBytes (nbits w : Nat) : List (BitVec 8) :=
  (List.range ((nbits + 7) / 8)).map fun k => BitVec.ofNat 8 (w / 2 ^ (8 * k))

/-- The instruction the decoder reads from a word numbered as opcode_table.json numbers it. -/
def decodeTableWord (nbits w : Nat) : Option Instr :=
  if 2 ^ nbits ≤ w then none
  else
    match decodeBytes tableCtx (tableFormat nbits) (tableBytes nbits w) with
    | .ok i => some i
    | .error _ => none

end Sys2Proof
end

