-- ==== Sys2Proof/Machine/State.lean ====
section
/-! DEFINITION. The state of the machine (10_state.md R20, R22), why a step can stop, and the state after reset
(70_reset_and_hazards.md R240). -/

namespace Sys2Proof.Machine

/-- The registers of R22, `S_n` of 00_scope.md R9: "the registers of the table in rule R22; nothing else is state" (R20). -/
structure Block where
  /-- `ST`, the program counter (R21). -/
  st : StateCode
  /-- `CNT`, the one timer (R23). -/
  cnt : Nat
  /-- `LOWCNT`, the count of the sync pulse (R24). -/
  lowCnt : Nat
  /-- `BITIDX` (R25). -/
  bitIdx : BitIndex
  /-- `SR`, the bit-shift buffer (R26). -/
  sr : Frame
  /-- `BUF`, the Raw Sample Buffer (R27). -/
  buf : Frame
  /-- `OK` (R28). -/
  ok : Bool
  /-- `ERR` (R29). -/
  err : ErrBits
  /-- `DONE` (R30). -/
  done : Bool
  /-- `HIT` (R30). -/
  hit : Bool
  /-- `SYNC1` (R31). -/
  sync1 : Bool
  /-- `SYNC2`, the sample `s` (R31). -/
  sync2 : Bool
  /-- `LAST_T` (R32); absent when `CACHE_EN` = 0 (log 6). -/
  lastT : Stamp
  /-- `HAS_RUN` (R32); absent when `CACHE_EN` = 0 (log 6). -/
  hasRun : Bool
  deriving DecidableEq, Repr, Inhabited

/-- The registers, and beside them what the step takes as arguments (R6: "parameters of the step, not state"): the
elaboration parameters, the scheduled inputs and the number of the cycle (log 1, log 2). -/
structure State where
  /-- The parameters of R7; no step changes them (log 2). -/
  params : Params
  /-- The registers. -/
  block : Block
  /-- The inputs of the coming cycles, this cycle's first (log 1). -/
  pending : List Inputs
  /-- n of "cycle n" (R9); draws the inputs where none is scheduled (log 1). -/
  cycle : Nat
  deriving DecidableEq, Repr, Inhabited

/-- Why a step stops with a fault: values the spec reserves, "a model that finds one ... treats it as a fault" (R77). All
three are unreachable from reset (R38). -/
inductive Fault where
  /-- `ST` is 10 to 15 (R77 b). Raised by the six `RESERVED_ST` rows. Safe: no rule assigns these values. -/
  | reservedState (code : StateCode)
  /-- `ERR` is 5 to 7 (R77 a). Raised by every row but `RST`. Safe: no rule writes these values. -/
  | reservedErr (code : ErrBits)
  /-- `BITIDX` is 41 to 63 (R77 c, 93 row 4). Raised by every row but `RST`. Safe: never reached. -/
  | reservedBitIdx (idx : BitIndex)
  deriving DecidableEq, Repr

/-- Why a step is refused. -/
inductive Refusal where
  /-- The instruction has no meaning yet. Raised by `exec` alone; no arm raises it now. Safe. -/
  | notModelled (mnemonic : String)
  deriving DecidableEq, Repr

/-- The reset value of every register (R240). -/
def Block.reset : Block :=
  { st := St.ready, cnt := 0, lowCnt := 0, bitIdx := 0#6, sr := 0#40, buf := 0#40, ok := false, err := Err.none,
    done := false, hit := false, sync1 := true, sync2 := true, lastT := 0#32, hasRun := false }

/-- The machine right after reset (R240, R241). The parameters are a DESIGN CHOICE (log 3); no input is scheduled and the
cycle is numbered 0 (log 4). -/
def State.reset : State :=
  { params := Params.common, block := Block.reset, pending := [], cycle := 0 }

end Sys2Proof.Machine
end

