-- ==== Sys2Proof/Machine/Operands.lean ====
section
/-! DEFINITION. What the rules read: the inputs of the cycle (00_scope.md R9), the sample (41_capture.md R131), the three
assembled operands (30_encoding.md R73), the bytes and bits of a frame (20_memory.md R51, R52) and the checksum sum
(42_check_commit.md R160). -/

namespace Sys2Proof.Machine

/-- `I_n` of the n-th cycle from this one: scheduled, or a free draw. -/
def State.inputAt (s : State) (n : Nat) : Inputs :=
  match s.pending[n]? with
  | some i => i
  | none => Config.freeInputs (s.cycle + n)

/-- The inputs of this cycle. -/
def State.inputs (s : State) : Inputs := s.inputAt 0

/-- `s = SYNC2`: "every level decision of the block reads only `s`" (R131). -/
def Block.sample (b : Block) : Bool := b.sync2

/-- `byte(v, k)` = `v[39-8k:32-8k]` (R51). -/
def byteOf (v : Frame) (k : Fin 5) : BitVec 8 := v.extractLsb' (32 - 8 * k.val) 8

/-- Bit j of the wire in a frame, `v[39-j]` (R52). -/
def wireBit (v : Frame) (j : Fin 40) : Bool := v.getLsbD (39 - j.val)

/-- `{SR[38:0], b}` (R73 a, R136). -/
def shiftIn (v : Frame) (b : Bool) : Frame := (v.setWidth 39).concat b

/-- `CNT + 1` in a register of `CNT_W` bits (R23; log 5). -/
def nextCount (p : Params) (n : Nat) : Nat := (n + 1) % 2 ^ p.cntW

/-- `(byte(v,0) + byte(v,1) + byte(v,2) + byte(v,3)) mod 256` (R160). -/
def sum8 (v : Frame) : BitVec 8 := byteOf v 0 + byteOf v 1 + byteOf v 2 + byteOf v 3

/-- The checksum of R72 and R160 holds. -/
def checksumOk (v : Frame) : Bool := byteOf v 4 == sum8 v

/-- The decision of strategy `A`: `(CNT > LOWCNT) ? 1 : 0` (R134). -/
def decideA (b : Block) : Bool := decide (b.lowCnt < b.cnt)

/-- The decision of strategy `B`: `(CNT > THRESHOLD) ? 1 : 0` (R135). -/
def decideB (p : Params) (b : Block) : Bool := decide (p.threshold < b.cnt)

/-- `fresh(now)` of 43_cache.md R181; the subtraction is read only where `now` ≥ `LAST_T`. -/
def Block.fresh (p : Params) (b : Block) (now : Stamp) : Bool :=
  b.hasRun && !decide (now.toNat < b.lastT.toNat) && decide ((now - b.lastT).toNat < p.tMin)

/-- `MemRead() = data = BUF` (20_memory.md R56). -/
def State.memRead (s : State) : Frame := s.block.buf

end Sys2Proof.Machine
end

