-- ==== Sys2Proof/Machine/Flags.lean ====
section
/-! DEFINITION. The status flags (10_state.md R33): who writes `DONE`, `OK`, `ERR` and `HIT`, and the derived `busy` and
`crit` (R35, 60_exceptions.md R209). -/

namespace Sys2Proof.Machine

/-- `DONE <- 0`, of the common part (40_handshake.md R100). -/
def Block.clearDone (b : Block) : Block := { b with done := false }

/-- The flags of a completed transaction: `OK`, `ERR`, `HIT <- 0`, `DONE <- 1` (42_check_commit.md R161, R163). -/
def Block.complete (b : Block) (ok : Bool) (err : ErrBits) : Block :=
  { b with ok := ok, err := err, hit := false, done := true }

/-- The flags of a hit: `DONE <- 1; HIT <- 1` (43_cache.md R182). -/
def Block.completeHit (b : Block) : Block := { b with hit := true, done := true }

/-- `busy`: `ST` ≠ `READY` (R35). -/
def Block.busy (b : Block) : Bool := b.st != St.ready

/-- `crit`: "1 exactly when `STRATEGY` = `A` and `ST` ∈ {`BIT_LOW`, `BIT_HIGH`}" (R209). -/
def Block.crit (p : Params) (b : Block) : Bool :=
  p.strategy == .A && (b.st == St.bitLow || b.st == St.bitHigh)

end Sys2Proof.Machine
end

