-- ==== Sys2Proof/Machine/Ops.lean ====
section
/-! DEFINITION. The shared operations the meanings are built from: the register writes, accepting a transaction, the two
completions (a failure's entry among them, 60_exceptions.md R206), the timed phase, the measuring primitive
(41_capture.md R130), and the cycle that wraps a micro-operation (40_handshake.md R100). -/

namespace Sys2Proof.Machine

/-! ## Register writes -/

/-- `ST <- v`, the control transfer (R10, R21). -/
def Block.goto (b : Block) (v : StateCode) : Block := { b with st := v }

/-- `CNT <- n`. -/
def Block.setCnt (b : Block) (n : Nat) : Block := { b with cnt := n }

/-- `LOWCNT <- n`. -/
def Block.setLowCnt (b : Block) (n : Nat) : Block := { b with lowCnt := n }

/-- `SR <- {SR[38:0], v}; BITIDX <- BITIDX + 1` (R134, R136). -/
def Block.pushBit (b : Block) (v : Bool) : Block := { b with sr := shiftIn b.sr v, bitIdx := b.bitIdx + 1#6 }

/-- `BufWrite(v)`, "the only write primitive of the buffer" (R10), all 40 bits in one edge (20_memory.md R55). -/
def Block.bufWrite (b : Block) (v : Frame) : Block := { b with buf := v }

/-- `LOWCNT <- 0; BITIDX <- 0; SR <- 0` (R102). -/
def Block.clearFrame (b : Block) : Block := { b with lowCnt := 0, bitIdx := 0#6, sr := 0#40 }

/-- `LAST_T <- now; HAS_RUN <- 1` (43_cache.md R183). -/
def Block.stamp (b : Block) (now : Stamp) : Block := { b with lastT := now, hasRun := true }

/-- `SYNC1 <- level; SYNC2 <- SYNC1` (10_state.md R31). -/
def Block.latch (b : Block) (level : Bool) : Block := { b with sync1 := level, sync2 := b.sync1 }

/-! ## Transactions -/

/-- Accepting a transaction (R102, and R183 "as `REQ_ACQUIRE`"). -/
def Block.accept (b : Block) : Block := (b.clearFrame.setCnt 0).goto St.settle

/-- The failure commit `Fail(code)` (42_check_commit.md R163), the one entry every failure takes (R206). Nothing returns from
it: the block is in `READY` and the next request starts anew (R207). -/
def Block.fail (b : Block) (code : FailCode) : Block :=
  (((b.bufWrite 0#40).complete false code.bits).goto St.ready).setCnt 0

/-- The success commit (R161). -/
def Block.commitSuccess (b : Block) : Block :=
  (((b.bufWrite b.sr).complete true Err.none).goto St.ready).setCnt 0

/-! ## Timed and measuring states -/

/-- A timed phase of `t` cycles that leaves to `next` (R104, R105, R106). -/
def Block.timed (p : Params) (t : Nat) (next : StateCode) (b : Block) : Block :=
  if b.cnt = t - 1 then (b.goto next).setCnt 0 else b.setCnt (nextCount p b.cnt)

/-- `Measure(L, code, exit)` (R130). -/
def Block.measure (p : Params) (level : Bool) (code : FailCode) (exit : Block → Block) (b : Block) : Block :=
  if b.sample = level then
    if b.cnt = p.tTimeout - 1 then b.fail code else b.setCnt (nextCount p b.cnt)
  else (exit b).setCnt 0

/-! ## The cycle -/

/-- The reserved value of `ERR` or `BITIDX` the cycle finds, if any (R77 a and c; log 7). -/
def Block.reservedValue (b : Block) : Option Fault :=
  if Err.reserved b.err then some (.reservedErr b.err)
  else if BitIdx.reserved b.bitIdx then some (.reservedBitIdx b.bitIdx)
  else none

/-- The state of the next cycle: the registers given, the parameters kept, this cycle's inputs used up. -/
def State.advance (s : State) (b : Block) : State :=
  { s with block := b, pending := s.pending.tail, cycle := s.cycle + 1 }

/-- A cycle with `rst` = 0 (R100): the common part, and the micro-operation `op` on the values of the cycle. `op` reads `s`
as it was and never writes the synchronizer, so latching afterwards is the simultaneous update of R9. -/
def State.tick (s : State) (op : Params → Inputs → Block → Block) : Host.Outcome State Fault Refusal :=
  match s.block.reservedValue with
  | some f => .fault f
  | none => .next (s.advance ((op s.params s.inputs s.block.clearDone).latch s.inputs.dqIn))

end Sys2Proof.Machine
end

