-- ==== Sys2Proof/Machine/Cache.lean ====
section
/-! DEFINITION. The requests of the Reading Cache (43_cache.md R182, R183). -/

namespace Sys2Proof.Machine

/-- The assignments of a miss: the attempt's timestamp, then as `REQ_ACQUIRE` (R183). -/
def Block.miss (b : Block) (now : Stamp) : Block := (b.stamp now).accept

/-- `REQ_SAMPLE`, hit: `DONE <- 1; HIT <- 1`, all else unchanged (R182). -/
def execReqSampleHit (s : State) : Host.Outcome State Fault Refusal :=
  s.tick fun _ _ b => b.completeHit

/-- `REQ_SAMPLE`, miss (R183). -/
def execReqSampleMiss (s : State) : Host.Outcome State Fault Refusal :=
  s.tick fun _ i b => b.miss i.nowMs

end Sys2Proof.Machine
end

