-- ==== Sys2Proof/Machine/Capture.lean ====
section
/-! DEFINITION. The micro-operations of §4.1 step 6, bit capture (41_capture.md R133 to R137). -/

namespace Sys2Proof.Machine

/-- `BIT_LOW`: measure the sync pulse; its count goes to `LOWCNT` (R133). -/
def execBitLow (s : State) : Host.Outcome State Fault Refusal :=
  s.tick fun p _ b => b.measure p false .bitTimeout fun b => (b.setLowCnt b.cnt).goto St.bitHigh

/-- The `exit` of `BIT_HIGH` with the decided bit: shift it in, count it, and on to `CHECK` after the fortieth (R134,
R136, R137: `BITIDX` before its increment). -/
def captureBit (v : Bool) (b : Block) : Block :=
  (b.pushBit v).goto (if b.bitIdx = 39#6 then St.check else St.bitLow)

/-- `BIT_HIGH` under strategy `A` (R134). -/
def execBitHighA (s : State) : Host.Outcome State Fault Refusal :=
  s.tick fun p _ b => b.measure p true .bitTimeout fun b => captureBit (decideA b) b

/-- `BIT_HIGH` under strategy `B` (R135). -/
def execBitHighB (s : State) : Host.Outcome State Fault Refusal :=
  s.tick fun p _ b => b.measure p true .bitTimeout fun b => captureBit (decideB p b) b

end Sys2Proof.Machine
end

