-- ==== Sys2Proof/Machine/Check.lean ====
section
/-! DEFINITION. The micro-operation of §4.1 steps 7 and 8 (42_check_commit.md R160 to R163). -/

namespace Sys2Proof.Machine

/-- `CHECK`: the checksum, then the success commit or `Fail(CHECKSUM)` (R160, R161, R162). -/
def execCheck (s : State) : Host.Outcome State Fault Refusal :=
  s.tick fun _ _ b => if checksumOk b.sr then b.commitSuccess else b.fail .checksum

end Sys2Proof.Machine
end

