-- ==== Sys2Proof/Machine/Handshake.lean ====
section
/-! DEFINITION. The micro-operations of §4.1 steps 1 to 5 (40_handshake.md R104 to R109). -/

namespace Sys2Proof.Machine

/-- `SETTLE`: `T_IDLE` cycles, line released, then `START` (R104). -/
def execSettle (s : State) : Host.Outcome State Fault Refusal :=
  s.tick fun p _ b => b.timed p p.tIdle St.start

/-- `START`: `T_START` cycles, line driven low, then `RELEASE` (R105). -/
def execStart (s : State) : Host.Outcome State Fault Refusal :=
  s.tick fun p _ b => b.timed p p.tStart St.release

/-- `RELEASE`: `T_RELEASE` cycles, line driven high, then `RESP_LOW` (R106). -/
def execRelease (s : State) : Host.Outcome State Fault Refusal :=
  s.tick fun p _ b => b.timed p p.tRelease St.respLow

/-- `RESP_LOW`: wait through high for the response low, else `NO_START_LOW` (R107). -/
def execRespLow (s : State) : Host.Outcome State Fault Refusal :=
  s.tick fun p _ b => b.measure p true .noStartLow fun b => b.goto St.respHigh

/-- `RESP_HIGH`: wait through low for the response high, else `NO_START_HIGH` (R108). -/
def execRespHigh (s : State) : Host.Outcome State Fault Refusal :=
  s.tick fun p _ b => b.measure p false .noStartHigh fun b => b.goto St.respEnd

/-- `RESP_END`: wait through high for the first sync pulse, else `NO_START_HIGH` (R109). -/
def execRespEnd (s : State) : Host.Outcome State Fault Refusal :=
  s.tick fun p _ b => b.measure p true .noStartHigh fun b => b.goto St.bitLow

end Sys2Proof.Machine
end

