-- ==== Sys2Proof/Machine/Reserved.lean ====
section
/-! DEFINITION. The unused encodings of `ST` (30_encoding.md R77 b): "no rule assigns them and reset leaves `ST` = 0; a model
that finds one treats it as a fault". -/

namespace Sys2Proof.Machine

/-- The fault of an unused state encoding (R77 b). -/
def reservedFault (code : StateCode) : Host.Outcome State Fault Refusal := .fault (.reservedState code)

/-- `ST` = 10 (R77 b). -/
def execReservedSt10 (_ : State) : Host.Outcome State Fault Refusal := reservedFault 10#4
/-- `ST` = 11 (R77 b). -/
def execReservedSt11 (_ : State) : Host.Outcome State Fault Refusal := reservedFault 11#4
/-- `ST` = 12 (R77 b). -/
def execReservedSt12 (_ : State) : Host.Outcome State Fault Refusal := reservedFault 12#4
/-- `ST` = 13 (R77 b). -/
def execReservedSt13 (_ : State) : Host.Outcome State Fault Refusal := reservedFault 13#4
/-- `ST` = 14 (R77 b). -/
def execReservedSt14 (_ : State) : Host.Outcome State Fault Refusal := reservedFault 14#4
/-- `ST` = 15 (R77 b). -/
def execReservedSt15 (_ : State) : Host.Outcome State Fault Refusal := reservedFault 15#4

end Sys2Proof.Machine
end

