-- ==== Sys2Proof/Machine/Command.lean ====
section
/-! DEFINITION. The commands (40_handshake.md R101 to R103, 70_reset_and_hazards.md R240) and the state `READY`, which decodes
them (R100). -/

namespace Sys2Proof.Machine

/-- `RST`: "every register takes its reset value in the next cycle", whatever the state (R240). -/
def execRst (s : State) : Host.Outcome State Fault Refusal := .next (s.advance Block.reset)

/-- The cycle of the state `ST` with `req` = 0: in `READY` the common part alone (R101), elsewhere the state's own
micro-operation (R100), in an unused state the fault of R77 b. -/
def runState (s : State) : Host.Outcome State Fault Refusal :=
  match s.block.st.toNat with
  | 0 => s.tick fun _ _ b => b
  | 1 => execSettle s
  | 2 => execStart s
  | 3 => execRelease s
  | 4 => execRespLow s
  | 5 => execRespHigh s
  | 6 => execRespEnd s
  | 7 => execBitLow s
  | 8 =>
    match s.params.strategy with
    | .A => execBitHighA s
    | .B => execBitHighB s
  | 9 => execCheck s
  | _ => reservedFault s.block.st

/-- `NOP`: "in `READY`, only the common part ... In any other state a `NOP` is the state's own rule" (R101). -/
def execNop (s : State) : Host.Outcome State Fault Refusal := runState s

/-- `REQ_IGNORED`: "the cycle performs the micro-operation of `ST` exactly as if `req` were 0; no register records the
request" (R103). -/
def execReqIgnored (s : State) : Host.Outcome State Fault Refusal := runState s

/-- `REQ_ACQUIRE`: accept a transaction (R102). -/
def execReqAcquire (s : State) : Host.Outcome State Fault Refusal :=
  s.tick fun _ _ b => b.accept

/-- `ST` = `READY`: "decode {req, busy=0}: NOP (R101) | REQ_ACQUIRE (R102) | REQ_SAMPLE (R182, R183)" (R100). -/
def execReady (s : State) : Host.Outcome State Fault Refusal :=
  s.tick fun p i b =>
    if !i.req then b
    else if !p.cacheEn then b.accept
    else if b.fresh p i.nowMs then b.completeHit
    else b.miss i.nowMs

end Sys2Proof.Machine
end

