-- ==== Sys2Proof/Machine/Dispatch.lean ====
section
/-! DEFINITION. One arm per row of the opcode table. -/

namespace Sys2Proof.Machine

def exec (i : Instr) (s : State) : Host.Outcome State Fault Refusal :=
  match i with
  -- commands (30_encoding.md R74)
  | .rst => Sys2Proof.Machine.execRst s
  | .nop => Sys2Proof.Machine.execNop s
  | .reqAcquire => Sys2Proof.Machine.execReqAcquire s
  | .reqSampleHit => Sys2Proof.Machine.execReqSampleHit s
  | .reqSampleMiss => Sys2Proof.Machine.execReqSampleMiss s
  | .reqIgnored => Sys2Proof.Machine.execReqIgnored s
  -- states (30_encoding.md R75)
  | .ready => Sys2Proof.Machine.execReady s
  | .settle => Sys2Proof.Machine.execSettle s
  | .start => Sys2Proof.Machine.execStart s
  | .release => Sys2Proof.Machine.execRelease s
  | .respLow => Sys2Proof.Machine.execRespLow s
  | .respHigh => Sys2Proof.Machine.execRespHigh s
  | .respEnd => Sys2Proof.Machine.execRespEnd s
  | .bitLow => Sys2Proof.Machine.execBitLow s
  | .bitHighA => Sys2Proof.Machine.execBitHighA s
  | .bitHighB => Sys2Proof.Machine.execBitHighB s
  | .check => Sys2Proof.Machine.execCheck s
  -- unused states (30_encoding.md R77)
  | .reservedSt10 => Sys2Proof.Machine.execReservedSt10 s
  | .reservedSt11 => Sys2Proof.Machine.execReservedSt11 s
  | .reservedSt12 => Sys2Proof.Machine.execReservedSt12 s
  | .reservedSt13 => Sys2Proof.Machine.execReservedSt13 s
  | .reservedSt14 => Sys2Proof.Machine.execReservedSt14 s
  | .reservedSt15 => Sys2Proof.Machine.execReservedSt15 s

end Sys2Proof.Machine
end

