-- ==== Sys2Proof/Machine/Fetch.lean ====
section
/-! DEFINITION. Which row a cycle runs (40_handshake.md R100, 30_encoding.md R74, R75), and how a row's word is placed so that
the next step runs it. -/

namespace Sys2Proof.Machine

/-- What tells rows of one pattern apart in this cycle. -/
def State.selectCtx (s : State) : SelectCtx :=
  { cacheEn := s.params.cacheEn, strategy := s.params.strategy, fresh := s.block.fresh s.params s.inputs.nowMs }

/-- The command vector of this cycle, `{rst, req}` with `busy` (R74). -/
def State.cmdVector (s : State) : CmdVector := Sys2Proof.cmdVector s.inputs.rst s.inputs.req s.block.busy

/-- The command of this cycle (R74). -/
def State.command (s : State) : Instr := decodeCommand s.selectCtx s.cmdVector

/-- The row of this cycle's `ST` (R75). -/
def State.microOp (s : State) : Instr := decodeState s.params.strategy s.block.st

/-- R100: with `rst` = 1 the command `RST`; in `READY` the command; otherwise the micro-operation of `ST` (log 11). -/
def State.selected (s : State) : Instr :=
  if s.inputs.rst then s.command
  else if s.block.busy then s.microOp
  else s.command

/-- This cycle's inputs with `rst` and `req` given. An unscheduled cycle gets `now_ms` = 0 and a high line (log 9). -/
def State.present (s : State) (rst req : Bool) : State :=
  match s.pending with
  | i :: rest => { s with pending := { i with rst := rst, req := req } :: rest }
  | [] => { s with pending := [{ rst := rst, req := req, nowMs := 0#32, dqIn := true }] }

/-- `ST` set to `v`. -/
def State.withSt (s : State) (v : StateCode) : State := { s with block := s.block.goto v }

/-- A command word: `rst` and `req` are presented; `busy` = 0 is `READY`, and `busy` = 1 keeps a busy state or takes the
first of them, `SETTLE` (log 9). -/
def State.placeCommand (s : State) (v : CmdVector) : State :=
  (s.withSt (if !v.getLsbD 0 then St.ready else if s.block.busy then s.block.st else St.settle)).present
    (v.getLsbD 2) (v.getLsbD 1)

/-- A state word: `ST` is the word, and the host presents neither `rst` nor `req` (log 9). -/
def State.placeState (s : State) (v : StateCode) : State := (s.withSt v).present false false

/-- A word of the opcode table, read in the format the decoder reads it in (log 10). -/
def State.placeWord (s : State) (nbits w : Nat) : State :=
  match tableFormat nbits with
  | .cmd => s.placeCommand (BitVec.ofNat 3 w)
  | .ustate => s.placeState (BitVec.ofNat 4 w)

end Sys2Proof.Machine
end

