-- ==== Sys2Proof/Machine/Step.lean ====
section
/-! DEFINITION. One cycle of `clk`: `S_{n+1} = Step(S_n, I_n)` (00_scope.md R9, 40_handshake.md R100). -/

namespace Sys2Proof.Machine

/-- One cycle: run the row the cycle selects. -/
def step (s : State) : Host.Outcome State Fault Refusal := exec s.selected s

/-- The state with a row's word placed so that the next step runs it (log 9). -/
def State.withFetchWord (s : State) (nbits w : Nat) : State := s.placeWord nbits w

end Sys2Proof.Machine
end

