-- ==== Sys2Proof/Machine/Ports.lean ====
section
/-! DEFINITION. The outputs: Moore functions of the registers (10_state.md R34, R35; 60_exceptions.md R213). -/

namespace Sys2Proof.Machine

/-- The pad outputs (R213). -/
structure Pad where
  /-- `dq_oe`: the block drives the line. -/
  oe : Bool
  /-- `dq_o`: the level driven. -/
  o : Bool
  /-- `dq_pu`: the pull-up is enabled. -/
  pu : Bool
  deriving DecidableEq, Repr

/-- Input with pull-up. -/
def Pad.released : Pad := { oe := false, o := false, pu := true }
/-- Driving low. -/
def Pad.driveLow : Pad := { oe := true, o := false, pu := false }
/-- Driving high. -/
def Pad.driveHigh : Pad := { oe := true, o := true, pu := false }

/-- The pad columns of R35: "In `START` the pad drives low; in `RELEASE` it drives high; in every other state it is an input
with pull-up enabled" (R213). The table has no row for the unused states: they show no outputs (log 13). -/
def padOf (st : StateCode) : Option Pad :=
  match st.toNat with
  | 0 => some Pad.released
  | 1 => some Pad.released
  | 2 => some Pad.driveLow
  | 3 => some Pad.driveHigh
  | 4 => some Pad.released
  | 5 => some Pad.released
  | 6 => some Pad.released
  | 7 => some Pad.released
  | 8 => some Pad.released
  | 9 => some Pad.released
  | _ => none

/-- The output ports of R34. -/
structure Outputs where
  pad : Pad
  busy : Bool
  done : Bool
  ok : Bool
  hit : Bool
  err : ErrBits
  data : Frame
  crit : Bool
  dbgState : StateCode
  dbgBitIdx : BitIndex
  deriving DecidableEq, Repr

/-- R35: "Every output is a function of the registers of the current cycle". -/
def State.outputs (s : State) : Option Outputs :=
  match padOf s.block.st with
  | none => none
  | some pad =>
    some
      { pad := pad, busy := s.block.busy, done := s.block.done, ok := s.block.ok, hit := s.block.hit,
        err := s.block.err, data := s.block.buf, crit := s.block.crit s.params, dbgState := s.block.st,
        dbgBitIdx := s.block.bitIdx }

end Sys2Proof.Machine
end

