-- ==== Sys2Proof/Safety.lean ====
section
/-! DEFINITION. What a run is, and what claims call a good state: the invariants of 10_state.md R38 and of R23, R25, R30 and
R32, with those they rest on. -/

namespace Sys2Proof.Machine

/-- `k` cycles, stopping at the first fault or refusal. -/
def run : Nat → State → Host.Outcome State Fault Refusal
  | 0, s => .next s
  | k + 1, s =>
    match step s with
    | .next t => run k t
    | .fault f => .fault f
    | .refused r => .refused r

/-- The sample `s` of the n-th cycle from this one, as long as no reset comes between: what the synchronizer holds, then the
line two cycles back (10_state.md R31). -/
def State.sampleAt (s : State) (n : Nat) : Bool :=
  match n with
  | 0 => s.block.sync2
  | 1 => s.block.sync1
  | m + 2 => (s.inputAt m).dqIn

/-- No reserved value of `ERR` or `BITIDX` (30_encoding.md R77 a and c). -/
abbrev Block.unreserved (b : Block) : Prop := b.reservedValue = none

/-- A state of a timed phase or a measuring state (30_encoding.md R75). -/
def St.inHandshake (v : StateCode) : Bool := decide (1 ≤ v.toNat) && decide (v.toNat ≤ 6)

/-- One of the five measuring states (41_capture.md R130). -/
def St.measuring (v : StateCode) : Bool := decide (4 ≤ v.toNat) && decide (v.toNat ≤ 8)

/-- The invariant of the machine: R38 (a) to (f), and what R23, R24, R25, R30, R32 and R7 say beside it. -/
structure Inv (s : State) : Prop where
  /-- The constraints of R7. -/
  params_wf : s.params.wf = true
  /-- R77 b: `ST` 10 to 15 are unused. -/
  st_used : St.reserved s.block.st = false
  /-- R38 f. -/
  err_used : Err.reserved s.block.err = false
  /-- R25: 0 to 40. -/
  bitIdx_used : BitIdx.reserved s.block.bitIdx = false
  /-- R22: `CNT` has `CNT_W` bits. -/
  cnt_fits : s.block.cnt < 2 ^ s.params.cntW
  /-- R132: the largest count that can be stored is `T_TIMEOUT` − 1. -/
  lowCnt_bounded : s.block.lowCnt < s.params.tTimeout
  /-- R38 a. -/
  buf_checked : s.block.buf = 0#40 ∨ checksumOk s.block.buf = true
  /-- R38 b. -/
  ok_success : s.block.ok = true → s.block.err = Err.none ∧ checksumOk s.block.buf = true
  /-- R38 c. -/
  failed_zero : s.block.ok = false → s.block.buf = 0#40
  /-- R38 d and R23: in `READY` and `CHECK` it is 0. -/
  idle_cnt : s.block.st = St.ready ∨ s.block.st = St.check → s.block.cnt = 0
  /-- R38 e. -/
  capturing_bits : s.block.st = St.bitLow ∨ s.block.st = St.bitHigh → s.block.bitIdx.toNat ≤ 39
  /-- R38 e. -/
  check_bits : s.block.st = St.check → s.block.bitIdx = 40#6
  /-- R102, R109: nothing is captured before bit capture. -/
  handshake_bits : St.inHandshake s.block.st = true → s.block.bitIdx = 0#6
  /-- R136: `SR` holds as many bits as were shifted in. -/
  sr_bits : s.block.sr.toNat < 2 ^ s.block.bitIdx.toNat
  /-- R104. -/
  settle_cnt : s.block.st = St.settle → s.block.cnt < s.params.tIdle
  /-- R105. -/
  start_cnt : s.block.st = St.start → s.block.cnt < s.params.tStart
  /-- R106. -/
  release_cnt : s.block.st = St.release → s.block.cnt < s.params.tRelease
  /-- R130: the largest count is `T_TIMEOUT` − 1. -/
  measuring_cnt : St.measuring s.block.st = true → s.block.cnt < s.params.tTimeout
  /-- R30, R164: after a completion event the block is in `READY`. -/
  done_ready : s.block.done = true → s.block.st = St.ready
  /-- R30: `HIT` stays 0 when `CACHE_EN` = 0. -/
  hit_cache : s.block.hit = true → s.params.cacheEn = true
  /-- R22, R180: with no cache its registers are as reset left them (log 6). -/
  no_cache : s.params.cacheEn = false → s.block.lastT = 0#32 ∧ s.block.hasRun = false
  /-- R32: `HAS_RUN` is 1 from the first accepted transaction on. -/
  ran_cache : s.params.cacheEn = true → s.block.busy = true ∨ s.block.ok = true → s.block.hasRun = true

/-- A transaction is accepted in this cycle (R102, R183): no reset, `READY`, a request, and no fresh cached state. -/
def State.accepts (s : State) : Bool :=
  !s.inputs.rst && s.block.st == St.ready && s.inputs.req
    && !(s.params.cacheEn && s.block.fresh s.params s.inputs.nowMs)

/-- No reset is presented in the next `n` cycles. -/
def State.noReset (s : State) (n : Nat) : Prop := ∀ k, k < n → (s.inputAt k).rst = false

/-- The bound of 41_capture.md R139 on the cycles from a request's acceptance to its completion. -/
def transactionBound (p : Params) : Nat := 2 + p.tIdle + p.tStart + p.tRelease + 83 * p.tTimeout

end Sys2Proof.Machine
end

