-- ==== Sys2Proof/Certificates/Slice0/Obligations.lean ====
section
/-! DEFINITION. What is claimed of the machine, from the numbered rules of the spec. The helpers under `Sys2Proof.Claims` write
the register assignments of the rules out as record updates, without the machine's own operations. -/

namespace Sys2Proof.Claims

open Sys2Proof Sys2Proof.Machine

/-! ## The assignments of the rules, written out -/

/-- The common part of 40_handshake.md R100: `SYNC1 <- dq_in; SYNC2 <- SYNC1; DONE <- 0`; every other field stays. With
`CACHE_EN` = 0 the spec has no `LAST_T` and no `HAS_RUN`: that these two fields stay there too is the model's choice (log 6). -/
def common (s : State) : Block :=
  { s.block with sync1 := s.inputs.dqIn, sync2 := s.block.sync1, done := false }

/-- The table of 70_reset_and_hazards.md R240. Its last two rows are of `CACHE_EN` = 1; that the fields `lastT` and `hasRun` take
these values with `CACHE_EN` = 0 too is the model's choice (log 6). -/
def resetBlock : Block :=
  { st := 0#4, cnt := 0, lowCnt := 0, bitIdx := 0#6, sr := 0#40, buf := 0#40, ok := false, err := 0#3, done := false,
    hit := false, sync1 := true, sync2 := true, lastT := 0#32, hasRun := false }

/-- R102: `ST <- SETTLE; CNT <- 0; LOWCNT <- 0; BITIDX <- 0; SR <- 0`. -/
def accepted (s : State) : Block :=
  { common s with st := St.settle, cnt := 0, lowCnt := 0, bitIdx := 0#6, sr := 0#40 }

/-- R163: `BufWrite(0); OK <- 0; ERR <- code; HIT <- 0; DONE <- 1; ST <- READY; CNT <- 0`. -/
def failed (s : State) (code : ErrBits) : Block :=
  { common s with buf := 0#40, ok := false, err := code, hit := false, done := true, st := St.ready, cnt := 0 }

/-- R161: `BufWrite(SR); OK <- 1; ERR <- NONE; HIT <- 0; DONE <- 1; ST <- READY; CNT <- 0`. -/
def succeeded (s : State) : Block :=
  { common s with buf := s.block.sr, ok := true, err := 0#3, hit := false, done := true, st := St.ready, cnt := 0 }

/-- R104 to R106: leave with `CNT` = 0 after `t` cycles, else `CNT <- CNT + 1`. -/
def timedNext (s : State) (t : Nat) (next : StateCode) : Block :=
  if s.block.cnt = t - 1 then { common s with st := next, cnt := 0 } else { common s with cnt := s.block.cnt + 1 }

/-- R130: at the level `level`, fail on the `T_TIMEOUT`-th sample or count; at the other, leave as `exit` says. -/
def measured (s : State) (level : Bool) (code : ErrBits) (exit : Block) : Block :=
  if s.block.sync2 = level then
    if s.block.cnt = s.params.tTimeout - 1 then failed s code else { common s with cnt := s.block.cnt + 1 }
  else exit

/-- R134, R136, R137: `SR <- {SR[38:0], b}; BITIDX <- BITIDX + 1; ST <- (BITIDX == 39) ? CHECK : BIT_LOW; CNT <- 0`. -/
def captured (s : State) (bit : Bool) : Block :=
  { common s with
    sr := (s.block.sr <<< 1) ||| (if bit then 1#40 else 0#40)
    bitIdx := s.block.bitIdx + 1#6
    st := if s.block.bitIdx = 39#6 then St.check else St.bitLow
    cnt := 0 }

/-- R160 in whole numbers: byte 4 is the sum of bytes 0 to 3 mod 256. -/
def sumMatches (v : Frame) : Prop :=
  v.toNat % 256 = (v.toNat / 2 ^ 32 + v.toNat / 2 ^ 24 % 256 + v.toNat / 2 ^ 16 % 256 + v.toNat / 2 ^ 8 % 256) % 256

/-- R181 in whole numbers. -/
def isFresh (s : State) : Prop :=
  s.block.hasRun = true ∧ s.block.lastT.toNat ≤ s.inputs.nowMs.toNat ∧
    s.inputs.nowMs.toNat - s.block.lastT.toNat < s.params.tMin

/-- The row `i` is the one the cycle runs, and it and the step answer the registers `b`. The parameters stay, and the
cycle's inputs are used up (logs 1 and 2). -/
def runsTo (i : Instr) (s : State) (b : Block) : Prop :=
  s.selected = i ∧ exec i s = .next (s.advance b) ∧ step s = .next (s.advance b)

/-- A cycle without reset in the state `st`, with no reserved value of `ERR` or `BITIDX` (R77; log 7). -/
def inState (s : State) (st : StateCode) : Prop :=
  s.inputs.rst = false ∧ s.block.st = st ∧ s.block.unreserved

/-- A `READY` cycle in which the host requests. -/
def requested (s : State) : Prop := inState s St.ready ∧ s.inputs.req = true

/-- The pad outputs `dq_oe`, `dq_o`, `dq_pu` of this cycle. -/
def padIs (s : State) (oe o pu : Bool) : Prop := s.outputs.map Outputs.pad = some { oe := oe, o := o, pu := pu }

/-- From the state `st` with `CNT` = 0 and no reset, `st` lasts exactly `d` cycles, counting them, and `next` follows. -/
def lastsExactly (s : State) (st : StateCode) (d : Nat) (next : StateCode) : Prop :=
  s.block.st = st → s.block.cnt = 0 → s.noReset d →
    (∀ k, k < d → ∃ t, run k s = .next t ∧ t.block.st = st ∧ t.block.cnt = k) ∧
      ∃ t, run d s = .next t ∧ t.block.st = next ∧ t.block.cnt = 0

/-- What causes each failure (60_exceptions.md R200): the state, the sample and the count of this cycle. -/
def causes (s : State) : FailCode → Prop
  | .noStartLow => s.block.st = St.respLow ∧ s.block.sync2 = true ∧ s.block.cnt = s.params.tTimeout - 1
  | .noStartHigh =>
    (s.block.st = St.respHigh ∧ s.block.sync2 = false ∧ s.block.cnt = s.params.tTimeout - 1) ∨
      (s.block.st = St.respEnd ∧ s.block.sync2 = true ∧ s.block.cnt = s.params.tTimeout - 1)
  | .bitTimeout =>
    (s.block.st = St.bitLow ∧ s.block.sync2 = false ∧ s.block.cnt = s.params.tTimeout - 1) ∨
      (s.block.st = St.bitHigh ∧ s.block.sync2 = true ∧ s.block.cnt = s.params.tTimeout - 1)
  | .checksum => s.block.st = St.check ∧ ¬ sumMatches s.block.sr

/-- The code of a failure (30_encoding.md R76). -/
def codeOf : FailCode → ErrBits
  | .noStartLow => 1#3
  | .noStartHigh => 2#3
  | .bitTimeout => 3#3
  | .checksum => 4#3

/-- The samples of one bit whose sync pulse has count `lo` and whose data pulse has count `hi` (41_capture.md R132), from the
first cycle of `BIT_LOW`: `lo` low, one high that ends `BIT_LOW`, `hi` high, one low that ends `BIT_HIGH`. -/
def bitSamples (lo hi : Nat) : List Bool :=
  List.replicate lo false ++ [true] ++ List.replicate hi true ++ [false]

/-- The samples of a frame. -/
def frameSamples : List (Nat × Nat) → List Bool
  | [] => []
  | (lo, hi) :: rest => bitSamples lo hi ++ frameSamples rest

/-- The value of a bit from its counts: R134 under strategy `A`, R135 under strategy `B`. -/
def bitValue (p : Params) (counts : Nat × Nat) : Bool :=
  match p.strategy with
  | .A => decide (counts.2 > counts.1)
  | .B => decide (counts.2 > p.threshold)

/-- A frame read as the value of its bits, the first bit of the wire the most significant (20_memory.md R52). -/
def frameValue (p : Params) (counts : List (Nat × Nat)) : Nat :=
  counts.foldl (fun v c => 2 * v + (bitValue p c).toNat) 0

/-- The rows of the output table of 10_state.md R35: `ST`, `busy`, `dq_oe`, `dq_o`, `dq_pu`, `crit` under `A` and `B`. -/
def outputRows : List (StateCode × Bool × Bool × Bool × Bool × Bool × Bool) :=
  [ (St.ready, false, false, false, true, false, false), (St.settle, true, false, false, true, false, false),
    (St.start, true, true, false, false, false, false), (St.release, true, true, true, false, false, false),
    (St.respLow, true, false, false, true, false, false), (St.respHigh, true, false, false, true, false, false),
    (St.respEnd, true, false, false, true, false, false), (St.bitLow, true, false, false, true, true, false),
    (St.bitHigh, true, false, false, true, true, false), (St.check, true, false, false, true, false, false) ]

end Sys2Proof.Claims

open Sys2Proof Sys2Proof.Machine Sys2Proof.Claims

/-! ## Reset -/

/-- R240: the reset table, whatever the state and the other inputs, the row `RST` for every vector `1--`, and the outputs of
the cycle after. With `CACHE_EN` = 0, where R22 and R240 have no `LAST_T` and no `HAS_RUN`, that the two fields are written is
the model's choice (log 6). -/
def Obligations.ResetGivesEveryRegisterItsResetValue : Prop :=
  ∀ s : State, exec .rst s = .next (s.advance resetBlock) ∧
    (s.inputs.rst = true → runsTo .rst s resetBlock) ∧
    (s.advance resetBlock).outputs =
      some { pad := { oe := false, o := false, pu := true }, busy := false, done := false, ok := false, hit := false,
             err := 0#3, data := 0#40, crit := false, dbgState := 0#4, dbgBitIdx := 0#6 }

/-- R242, R243: "while `rst` stays 1 the block stays in the reset state", with no completion event, and a request in the first
cycle after it is a miss when the cache is present and accepted when it is not. The values of `LAST_T` and `HAS_RUN` with
`CACHE_EN` = 0 are the model's choice (log 6). -/
def Obligations.ResetHeldKeepsTheResetState : Prop :=
  ∀ (s : State) (k : Nat), 0 < k → (∀ j, j < k → (s.inputAt j).rst = true) →
    ∃ t, run k s = .next t ∧ t.block = resetBlock ∧ t.params = s.params ∧
      (t.inputs.rst = false → t.inputs.req = true → s.params.cacheEn = true → t.selected = .reqSampleMiss) ∧
      (t.inputs.rst = false → t.inputs.req = true → s.params.cacheEn = false → t.selected = .reqAcquire)

/-! ## Encodings -/

/-- R74: the eight values of `{rst, req, busy}`, each selecting exactly one command for each value of `CACHE_EN`. -/
def Obligations.CommandVectorSelectsOneCommand : Prop :=
  ∀ c : SelectCtx,
    decodeCommand c 0b100#3 = .rst ∧ decodeCommand c 0b101#3 = .rst ∧ decodeCommand c 0b110#3 = .rst ∧
      decodeCommand c 0b111#3 = .rst ∧ decodeCommand c 0b000#3 = .nop ∧ decodeCommand c 0b001#3 = .nop ∧
      decodeCommand c 0b011#3 = .reqIgnored ∧
      (c.cacheEn = false → decodeCommand c 0b010#3 = .reqAcquire) ∧
      (c.cacheEn = true → c.fresh = true → decodeCommand c 0b010#3 = .reqSampleHit) ∧
      (c.cacheEn = true → c.fresh = false → decodeCommand c 0b010#3 = .reqSampleMiss) ∧
      ∀ r q b : Bool,
        (cmdVector r q b).getLsbD 2 = r ∧ (cmdVector r q b).getLsbD 1 = q ∧ (cmdVector r q b).getLsbD 0 = b

/-- R75: the micro-operation each value of `ST` selects; R77 b: the unused values. In a cycle without reset outside `READY`
that row is the one the cycle runs. -/
def Obligations.StateCodeSelectsItsMicroOperation : Prop :=
  (∀ g : Strategy,
    decodeState g 0#4 = .ready ∧ decodeState g 1#4 = .settle ∧ decodeState g 2#4 = .start ∧ decodeState g 3#4 = .release ∧
      decodeState g 4#4 = .respLow ∧ decodeState g 5#4 = .respHigh ∧ decodeState g 6#4 = .respEnd ∧
      decodeState g 7#4 = .bitLow ∧ decodeState .A 8#4 = .bitHighA ∧ decodeState .B 8#4 = .bitHighB ∧
      decodeState g 9#4 = .check ∧ decodeState g 10#4 = .reservedSt10 ∧ decodeState g 11#4 = .reservedSt11 ∧
      decodeState g 12#4 = .reservedSt12 ∧ decodeState g 13#4 = .reservedSt13 ∧ decodeState g 14#4 = .reservedSt14 ∧
      decodeState g 15#4 = .reservedSt15) ∧
    ∀ s : State, s.inputs.rst = false →
      (s.block.st ≠ 0#4 → s.selected = decodeState s.params.strategy s.block.st) ∧
        (s.block.st = 0#4 → s.selected = s.command)

/-- Words written out from the tables of R74 and R75 decode to their rows, under the selection `tableCtx`: the parameters of
`State.reset` (log 3) with nothing fresh (log 10). On it rest the rows of `010` (a miss) and of `1000` (`BIT_HIGH_A`). That an
empty or too wide word is rejected, and under which name, is the model's own decoder (log 10), not R74 or R75. -/
def Obligations.WrittenWordsDecode : Prop :=
  decodeBytes tableCtx .cmd [0b00000100#8] = .ok .rst ∧ decodeBytes tableCtx .cmd [0b00000001#8] = .ok .nop ∧
    decodeBytes tableCtx .cmd [0b00000010#8] = .ok .reqSampleMiss ∧
    decodeBytes tableCtx .cmd [0b00000011#8] = .ok .reqIgnored ∧
    decodeBytes tableCtx .ustate [0b00000101#8] = .ok .respHigh ∧
    decodeBytes tableCtx .ustate [0b00001000#8] = .ok .bitHighA ∧
    decodeBytes tableCtx .ustate [0b00001001#8] = .ok .check ∧
    decodeBytes tableCtx .ustate [0b00001111#8] = .ok .reservedSt15 ∧
    decodeBytes tableCtx .cmd [0b00001000#8] = .error .bitsAboveWord ∧
    decodeBytes tableCtx .ustate [0b00010000#8] = .error .bitsAboveWord ∧
    decodeBytes tableCtx .ustate [] = .error .noWord

/-- Decoding what the encoder writes for a row whose condition holds gives the row back. -/
def Obligations.EncodedRowDecodesToItself : Prop :=
  ∀ (c : SelectCtx) (i : Instr), i.wf c = true → decodeBytes c i.format (encode i) = .ok i

/-- The other direction: bytes that decode to a row are the row's word, but for the don't-care bits of `RST` (`1--`) and `NOP`
(`00-`), the row is of the format, and its condition holds. -/
def Obligations.DecodedBytesAreTheRowsWord : Prop :=
  ∀ (c : SelectCtx) (f : Format) (bytes : List (BitVec 8)) (i : Instr), decodeBytes c f bytes = .ok i →
    i.format = f ∧ i.wf c = true ∧
      (bytes = encode i ∨ (i = .nop ∧ bytes = [0b001#8]) ∨
        (i = .rst ∧ (bytes = [0b101#8] ∨ bytes = [0b110#8] ∨ bytes = [0b111#8])))

/-! ## The step -/

/-- R100: a step runs the row the cycle selects: `RST` and nothing else with `rst` = 1, the command of `{req, busy=0}` in
`READY`, otherwise the row of `ST`; and every cycle but a reset does the common part. -/
def Obligations.StepRunsTheSelectedRow : Prop :=
  ∀ s : State, step s = exec s.selected s ∧
    (s.inputs.rst = true → s.selected = .rst) ∧
    (s.inputs.rst = false → s.block.st = St.ready →
      s.selected =
        decodeCommand
          { cacheEn := s.params.cacheEn, strategy := s.params.strategy,
            fresh := s.block.fresh s.params s.inputs.nowMs }
          (cmdVector false s.inputs.req false)) ∧
    (s.inputs.rst = false → s.block.st ≠ St.ready → s.selected = decodeState s.params.strategy s.block.st) ∧
    ∀ t, step s = .next t → s.inputs.rst = false →
      t.block.sync1 = s.inputs.dqIn ∧ t.block.sync2 = s.block.sync1 ∧
        (t.block.done = true → t.block.st = St.ready)

/-- R74 and R75 name one cycle in two ways: in every cycle without reset the command and the row of `ST` have the same
outcome, and it is the step's. -/
def Obligations.CommandAndStateNameTheSameCycle : Prop :=
  ∀ s : State, s.inputs.rst = false → exec s.command s = step s ∧ exec s.microOp s = step s

/-- The parameters of R7 never change, and a step uses up one cycle's inputs (the model's own fields, logs 1 and 2). -/
def Obligations.StepKeepsTheParameters : Prop :=
  ∀ (i : Instr) (s t : State), exec i s = .next t →
    t.params = s.params ∧ t.pending = s.pending.tail ∧ t.cycle = s.cycle + 1

/-- In a state that meets the invariant no step stops: the block has no trap (R202) and no input value is illegal (R200). -/
def Obligations.StepAlwaysAnswersUnderTheInvariant : Prop :=
  ∀ s : State, Inv s → ∃ t, step s = .next t

/-! ## Commands -/

/-- R101: in `READY` a `NOP` is the common part alone; in any other state it is the state's own rule. -/
def Obligations.NopIsTheCommonPart : Prop :=
  ∀ s : State, s.inputs.rst = false → s.inputs.req = false →
    (inState s St.ready → runsTo .nop s (common s)) ∧
      (s.block.st ≠ St.ready → s.command = .nop ∧ exec .nop s = exec s.microOp s ∧ step s = exec .nop s)

/-- R102: a request in `READY` with no cache starts a transaction, whatever `DONE` is; the results stay. That the fields of the
absent `LAST_T` and `HAS_RUN` stay too is the model's choice (log 6); R102 says nothing of them. -/
def Obligations.AcquireStartsATransaction : Prop :=
  ∀ s : State, requested s → s.params.cacheEn = false →
    runsTo .reqAcquire s (accepted s) ∧ (accepted s).busy = true

/-- R103: a request while busy is not read: the cycle is the one of `ST`, it is the same with `req` = 0, and nothing records
the request. It answers a next state wherever no reserved value stands. -/
def Obligations.RequestWhileBusyIsIgnored : Prop :=
  ∀ s : State, s.inputs.rst = false → s.inputs.req = true → s.block.st ≠ St.ready →
    s.command = .reqIgnored ∧ exec .reqIgnored s = exec s.microOp s ∧ step s = exec .reqIgnored s ∧
      (∀ i rest, s.pending = i :: rest → step { s with pending := { i with req := false } :: rest } = step s) ∧
      (s.block.unreserved → St.reserved s.block.st = false → ∃ t, exec .reqIgnored s = .next t)

/-- R100: the row `READY` decodes the command vector, and its outcome is the one of the command. -/
def Obligations.ReadyDecodesTheCommand : Prop :=
  ∀ s : State, inState s St.ready →
    exec .ready s = exec s.command s ∧ step s = exec .ready s ∧
      (s.inputs.req = false → exec .ready s = .next (s.advance (common s))) ∧
      (s.inputs.req = true → s.params.cacheEn = false → exec .ready s = .next (s.advance (accepted s))) ∧
      (s.inputs.req = true → s.params.cacheEn = true → isFresh s →
        exec .ready s = .next (s.advance { common s with done := true, hit := true })) ∧
      (s.inputs.req = true → s.params.cacheEn = true → ¬ isFresh s →
        exec .ready s = .next (s.advance { accepted s with lastT := s.inputs.nowMs, hasRun := true }))

/-! ## The Reading Cache -/

/-- R181: fresh is exactly `HAS_RUN`, `now` not below `LAST_T`, and less than `T_MIN` elapsed. -/
def Obligations.FreshMeansLessThanTMinElapsed : Prop :=
  ∀ s : State, s.block.fresh s.params s.inputs.nowMs = true ↔ isFresh s

/-- R182: a hit sets `DONE` and `HIT` and changes nothing else but the synchronizer; `busy` and the pad stay. -/
def Obligations.FreshRequestIsAHit : Prop :=
  ∀ s : State, requested s → s.params.cacheEn = true → isFresh s →
    runsTo .reqSampleHit s { common s with done := true, hit := true } ∧
      padIs s false false true ∧ padIs (s.advance { common s with done := true, hit := true }) false false true

/-- R183: a miss records the timestamp of the request's cycle and starts a transaction; the results stay. -/
def Obligations.StaleRequestIsAMiss : Prop :=
  ∀ s : State, requested s → s.params.cacheEn = true → ¬ isFresh s →
    runsTo .reqSampleMiss s { accepted s with lastT := s.inputs.nowMs, hasRun := true }

/-- R185: a clock below the stored timestamp forces a miss whatever would have elapsed, and the miss stores it. -/
def Obligations.ClockGoingBackForcesAMiss : Prop :=
  ∀ s : State, requested s → s.params.cacheEn = true → s.inputs.nowMs.toNat < s.block.lastT.toNat →
    s.selected = .reqSampleMiss ∧ ∃ t, step s = .next t ∧ t.block.lastT = s.inputs.nowMs ∧ t.block.st = St.settle

/-- R187: the cache's state is set only by reset and by a miss. With `CACHE_EN` = 0 the rules of 43_cache.md do not apply and the
registers are absent: what is said of the two fields there is the model's choice (log 6). -/
def Obligations.CacheStateSetOnlyByResetAndMiss : Prop :=
  ∀ s t : State, step s = .next t →
    (s.selected = .rst ∧ t.block.lastT = 0#32 ∧ t.block.hasRun = false) ∨
      (s.selected = .reqSampleMiss ∧ t.block.lastT = s.inputs.nowMs ∧ t.block.hasRun = true) ∨
      (s.selected ≠ .rst ∧ s.selected ≠ .reqSampleMiss ∧ t.block.lastT = s.block.lastT ∧
        t.block.hasRun = s.block.hasRun)

/-- R186: after a miss at `t0`, with no other miss and no reset between, a request decided in `READY` with
t0 ≤ `now_ms` < t0 + `T_MIN` is a hit; so a second miss saw the clock `T_MIN` on or below t0. -/
def Obligations.ThrottleAllowsOneTransactionPerInterval : Prop :=
  ∀ (s s' u : State) (n : Nat), s.selected = .reqSampleMiss → step s = .next s' → run n s' = .next u →
    (∀ k v, k < n → run k s' = .next v → v.selected ≠ .rst ∧ v.selected ≠ .reqSampleMiss) →
    (u.inputs.rst = false → u.inputs.req = true → u.block.st = St.ready →
        s.inputs.nowMs.toNat ≤ u.inputs.nowMs.toNat →
        u.inputs.nowMs.toNat < s.inputs.nowMs.toNat + s.params.tMin → u.selected = .reqSampleHit) ∧
      (u.selected = .reqSampleMiss →
        u.inputs.nowMs.toNat < s.inputs.nowMs.toNat ∨
          s.inputs.nowMs.toNat + s.params.tMin ≤ u.inputs.nowMs.toNat)

/-! ## The handshake -/

/-- R104, R105, R106: one cycle of each timed phase, with its pad outputs. -/
def Obligations.TimedPhaseCountsThenLeaves : Prop :=
  ∀ s : State, Inv s → s.inputs.rst = false →
    (s.block.st = St.settle → runsTo .settle s (timedNext s s.params.tIdle St.start) ∧ padIs s false false true) ∧
      (s.block.st = St.start → runsTo .start s (timedNext s s.params.tStart St.release) ∧ padIs s true false false) ∧
      (s.block.st = St.release → runsTo .release s (timedNext s s.params.tRelease St.respLow) ∧ padIs s true true false)

/-- R104, R105, R106, R254: each timed phase lasts exactly its parameter. -/
def Obligations.TimedPhasesLastExactlyTheirParameter : Prop :=
  ∀ s : State, s.params.wf = true → s.block.unreserved →
    lastsExactly s St.settle s.params.tIdle St.start ∧ lastsExactly s St.start s.params.tStart St.release ∧
      lastsExactly s St.release s.params.tRelease St.respLow

/-- R107, R108, R109: the three response waits, their levels, codes and exits, line released, `crit` = 0. -/
def Obligations.ResponseWaitsMeasureTheLine : Prop :=
  ∀ s : State, Inv s → s.inputs.rst = false →
    (s.block.st = St.respLow →
        runsTo .respLow s (measured s true 1#3 { common s with st := St.respHigh, cnt := 0 }) ∧
          padIs s false false true ∧ s.block.crit s.params = false) ∧
      (s.block.st = St.respHigh →
        runsTo .respHigh s (measured s false 2#3 { common s with st := St.respEnd, cnt := 0 }) ∧
          padIs s false false true ∧ s.block.crit s.params = false) ∧
      (s.block.st = St.respEnd →
        runsTo .respEnd s (measured s true 2#3 { common s with st := St.bitLow, cnt := 0 }) ∧
          padIs s false false true ∧ s.block.crit s.params = false)

/-! ## Bit capture -/

/-- R133: `BIT_LOW` measures the sync pulse, and its count goes to `LOWCNT` under both strategies. -/
def Obligations.BitLowMeasuresTheSyncPulse : Prop :=
  ∀ s : State, Inv s → s.inputs.rst = false → s.block.st = St.bitLow →
    runsTo .bitLow s
        (measured s false 3#3 { common s with lowCnt := s.block.cnt, st := St.bitHigh, cnt := 0 }) ∧
      padIs s false false true ∧ (s.block.crit s.params = true ↔ s.params.strategy = .A)

/-- R134: under strategy `A` the bit is 1 iff the data pulse's count exceeds the sync pulse's. -/
def Obligations.StrategyADecidesByComparison : Prop :=
  ∀ s : State, Inv s → s.inputs.rst = false → s.block.st = St.bitHigh → s.params.strategy = .A →
    runsTo .bitHighA s (measured s true 3#3 (captured s (decide (s.block.cnt > s.block.lowCnt)))) ∧
      padIs s false false true ∧ s.block.crit s.params = true

/-- R135: under strategy `B` the bit is 1 iff the data pulse's count exceeds `THRESHOLD`. -/
def Obligations.StrategyBDecidesByThreshold : Prop :=
  ∀ s : State, Inv s → s.inputs.rst = false → s.block.st = St.bitHigh → s.params.strategy = .B →
    runsTo .bitHighB s (measured s true 3#3 (captured s (decide (s.block.cnt > s.params.threshold)))) ∧
      padIs s false false true ∧ s.block.crit s.params = false

/-- R136, R137, R52, R161, R162: forty pulse pairs, each count below `T_TIMEOUT`, are captured in wire order in as many cycles
as there are samples; one cycle later the frame stands in `BUF` if its checksum holds, and `CHECKSUM` is reported if not. -/
def Obligations.FrameIsCapturedInWireOrder : Prop :=
  ∀ (s : State) (counts : List (Nat × Nat)), Inv s → s.block.st = St.bitLow → s.block.bitIdx = 0#6 → s.block.cnt = 0 →
    counts.length = 40 → (∀ c ∈ counts, c.1 < s.params.tTimeout ∧ c.2 < s.params.tTimeout) →
    s.noReset ((frameSamples counts).length + 1) →
    (∀ n, n < (frameSamples counts).length → (frameSamples counts)[n]? = some (s.sampleAt n)) →
    ∃ t u, run (frameSamples counts).length s = .next t ∧ t.block.st = St.check ∧
      t.block.sr.toNat = frameValue s.params counts ∧
      (∀ j : Fin 40, wireBit t.block.sr j = ((counts[j.val]?).map (bitValue s.params)).getD false) ∧
      step t = .next u ∧ u.block.st = St.ready ∧ u.block.done = true ∧
      (sumMatches t.block.sr → u.block.buf = t.block.sr ∧ u.block.ok = true ∧ u.block.err = 0#3) ∧
      (¬ sumMatches t.block.sr → u.block.buf = 0#40 ∧ u.block.ok = false ∧ u.block.err = 4#3)

/-! ## Completion and failure -/

/-- R160, R161, R162: the checksum decides between the success commit and `Fail(CHECKSUM)`. -/
def Obligations.CheckVerifiesAndCommits : Prop :=
  ∀ s : State, inState s St.check →
    (sumMatches s.block.sr → runsTo .check s (succeeded s)) ∧
      (¬ sumMatches s.block.sr → runsTo .check s (failed s 4#3))

/-- R163, R200, R206: the four causes, and only they, make a cycle the failure commit with their code, and `BITIDX` tells how
many bits were captured. -/
def Obligations.FailuresAreExactlyTheFourCauses : Prop :=
  ∀ s : State, s.inputs.rst = false →
    (∀ code, s.block.unreserved → causes s code → step s = .next (s.advance (failed s (codeOf code)))) ∧
      (∀ t, step s = .next t → t.block.done = true → t.block.hit = false → t.block.ok = false →
        ∃ code, causes s code ∧ t = s.advance (failed s (codeOf code))) ∧
      (Inv s →
        (causes s .noStartLow ∨ causes s .noStartHigh → s.block.bitIdx = 0#6) ∧
          (causes s .bitTimeout → s.block.bitIdx.toNat ≤ 39) ∧
          (causes s .checksum → s.block.bitIdx = 40#6))

/-- R55, R59, R164: without reset `BUF`, `OK`, `ERR` and `HIT` stay in every cycle that is no completion event; one that is
ends in `READY` and is a hit, the success commit or the failure commit. -/
def Obligations.ResultRegistersChangeTogether : Prop :=
  ∀ s t : State, step s = .next t → s.inputs.rst = false →
    (t.block.done = false →
        t.block.buf = s.block.buf ∧ t.block.ok = s.block.ok ∧ t.block.err = s.block.err ∧ t.block.hit = s.block.hit) ∧
      (t.block.done = true →
        t.block.st = St.ready ∧
          ((s.selected = .reqSampleHit ∧ t = s.advance { common s with done := true, hit := true }) ∨
            (s.selected = .check ∧ sumMatches s.block.sr ∧ t = s.advance (succeeded s)) ∨
            ∃ code, causes s code ∧ t = s.advance (failed s (codeOf code))))

/-- R59 c, R246: over any run without reset in which no completion event shows, the results stay. -/
def Obligations.ResultsHoldUntilTheNextCompletion : Prop :=
  ∀ (s t : State) (n : Nat), s.noReset n → run n s = .next t →
    (∀ k u, 0 < k → k ≤ n → run k s = .next u → u.block.done = false) →
    t.block.buf = s.block.buf ∧ t.block.ok = s.block.ok ∧ t.block.err = s.block.err ∧ t.block.hit = s.block.hit

/-- R139: an accepted request completes, with `DONE` = 1 and `HIT` = 0, within the bound, whatever the line does. -/
def Obligations.EveryTransactionCompletesWithinTheBound : Prop :=
  ∀ s : State, Inv s → s.accepts = true → s.noReset (transactionBound s.params) →
    ∃ k t, 0 < k ∧ k ≤ transactionBound s.params ∧ run k s = .next t ∧ t.block.done = true ∧ t.block.hit = false ∧
      t.block.st = St.ready ∧ ∀ j u, 0 < j → j < k → run j s = .next u → u.block.busy = true

/-- R139: a line that never leaves its level is reported: high in `RESP_LOW` as `NO_START_LOW`, low in `RESP_HIGH` as
`NO_START_HIGH`, at the cycle the durations give. -/
def Obligations.ConstantLineIsReported : Prop :=
  ∀ s : State, Inv s → s.accepts = true → s.noReset (transactionBound s.params) →
    ((∀ k, k < transactionBound s.params → (s.inputAt k).dqIn = true) →
        ∃ t, run (1 + s.params.tIdle + s.params.tStart + s.params.tRelease + s.params.tTimeout) s = .next t ∧
          t.block.done = true ∧ t.block.ok = false ∧ t.block.err = 1#3 ∧ t.block.st = St.ready) ∧
      ((∀ k, k < transactionBound s.params → (s.inputAt k).dqIn = false) →
        ∃ t, run (2 + s.params.tIdle + s.params.tStart + s.params.tRelease + s.params.tTimeout) s = .next t ∧
          t.block.done = true ∧ t.block.ok = false ∧ t.block.err = 2#3 ∧ t.block.st = St.ready)

/-! ## Checksum and frame layout -/

/-- 95_test_vectors.md L1.1: with the checksum byte of R160 any four bytes pass, and flipping any single bit of bytes 0 to 3
makes the frame fail. -/
def Obligations.ChecksumCatchesEverySingleBitFlip : Prop :=
  (∀ b0 b1 b2 b3 : BitVec 8, checksumOk (b0 ++ b1 ++ b2 ++ b3 ++ (b0 + b1 + b2 + b3)) = true) ∧
    ∀ (v : Frame) (j : Fin 40), 8 ≤ j.val → checksumOk v = true → checksumOk (v ^^^ (1#40 <<< j.val)) = false

/-- R51, R52: the five bytes of a frame, byte 0 first, and bit j of the wire in byte j / 8 at bit 7 − (j mod 8). -/
def Obligations.FrameBytesAndWireBits : Prop :=
  (∀ v : Frame, v = byteOf v 0 ++ byteOf v 1 ++ byteOf v 2 ++ byteOf v 3 ++ byteOf v 4) ∧
    (∀ (v : Frame) (j : Fin 40), wireBit v j = v.getLsbD (39 - j.val)) ∧
    ∀ (v : Frame) (k : Fin 5) (m : Fin 8), (byteOf v k).getLsbD (7 - m.val) = v.getLsbD (39 - (8 * k.val + m.val))

/-! ## Outputs -/

/-- R35: the output table, row by row, and the ports that copy registers. -/
def Obligations.OutputsFollowTheTable : Prop :=
  ∀ (s : State) (st : StateCode) (busy oe o pu critA critB : Bool), (st, busy, oe, o, pu, critA, critB) ∈ outputRows →
    s.block.st = st →
    s.outputs =
      some { pad := { oe := oe, o := o, pu := pu }, busy := busy, done := s.block.done, ok := s.block.ok,
             hit := s.block.hit, err := s.block.err, data := s.block.buf,
             crit := (match s.params.strategy with | .A => critA | .B => critB),
             dbgState := s.block.st, dbgBitIdx := s.block.bitIdx }

/-- R209, R210: under the invariant `crit` rises only out of `RESP_END`, under strategy `A`; it falls only into `CHECK` or
`READY`; and it is 0 in every cycle with `done` = 1. -/
def Obligations.ExclusiveWindowIsAlwaysReleased : Prop :=
  ∀ s t : State, Inv s → step s = .next t →
    (s.block.crit s.params = false → t.block.crit t.params = true →
        s.block.st = St.respEnd ∧ s.params.strategy = .A) ∧
      (s.block.crit s.params = true → t.block.crit t.params = false → t.block.st = St.check ∨ t.block.st = St.ready) ∧
      (t.block.done = true → t.block.crit t.params = false)

/-! ## The synchronizer and the inputs -/

/-- R31: in a run without reset the sample of cycle n is the line of cycle n − 2. -/
def Obligations.SampleIsTheLineTwoCyclesBack : Prop :=
  ∀ (s t : State) (n : Nat), s.noReset n → run n s = .next t →
    t.block.sync2 = s.sampleAt n ∧ t.block.sync1 = s.sampleAt (n + 1)

/-- R131: no decision reads `dq_in` or `SYNC1`: whatever they are, the cycle changes nothing but the synchronizer. -/
def Obligations.OnlyTheSampleDecides : Prop :=
  ∀ (s t : State) (i : Inputs) (rest : List Inputs) (x y : Bool), s.pending = i :: rest → step s = .next t →
    ∃ t', step { s with block := { s.block with sync1 := x }, pending := { i with dqIn := y } :: rest } = .next t' ∧
      { t'.block with sync1 := t.block.sync1, sync2 := t.block.sync2 } = t.block

/-- R212 b: `now_ms` is read only when a request is decided with the cache present. -/
def Obligations.PlatformClockReadOnlyWhenDeciding : Prop :=
  ∀ (s : State) (i : Inputs) (rest : List Inputs) (now : Stamp), s.pending = i :: rest →
    (i.rst = true ∨ i.req = false ∨ s.params.cacheEn = false ∨ s.block.st ≠ St.ready) →
    step { s with pending := { i with nowMs := now } :: rest } = step s

/-! ## Reserved values -/

/-- R77 a and b, and for `BITIDX` 93_implementation_defined.md row 4 (R77 c says only that its values are never reached): the
rows of the unused states fault, and a cycle that finds a reserved value faults unless it is a reset. No step writes a reserved
`ST` or `ERR`, and under the invariant none writes a reserved `BITIDX`. That `ERR` and `BITIDX` are looked at in every such
cycle, and in this order, is the model's choice (log 7). -/
def Obligations.ReservedValuesFault : Prop :=
  (∀ s : State,
    exec .reservedSt10 s = .fault (.reservedState 10#4) ∧ exec .reservedSt11 s = .fault (.reservedState 11#4) ∧
      exec .reservedSt12 s = .fault (.reservedState 12#4) ∧ exec .reservedSt13 s = .fault (.reservedState 13#4) ∧
      exec .reservedSt14 s = .fault (.reservedState 14#4) ∧ exec .reservedSt15 s = .fault (.reservedState 15#4)) ∧
    (∀ s : State, s.inputs.rst = false →
      (9 < s.block.st.toNat → step s = .fault (.reservedState s.block.st)) ∧
        (s.block.st.toNat ≤ 9 → 4 < s.block.err.toNat → step s = .fault (.reservedErr s.block.err)) ∧
        (s.block.st.toNat ≤ 9 → s.block.err.toNat ≤ 4 → 40 < s.block.bitIdx.toNat →
          step s = .fault (.reservedBitIdx s.block.bitIdx))) ∧
    ∀ s t : State, step s = .next t →
      t.block.st.toNat ≤ 9 ∧ t.block.err.toNat ≤ 4 ∧ (Inv s → t.block.bitIdx.toNat ≤ 40)

/-! ## The invariant -/

/-- R38 with R23, R25, R30, R32, R132 and R136: every step keeps the invariant. What it says of `LAST_T` and `HAS_RUN` with
`CACHE_EN` = 0 is the model's choice (log 6). -/
def Obligations.StepKeepsTheInvariant : Prop :=
  ∀ s t : State, Inv s → step s = .next t → Inv t

/-- R38: the invariant holds at `State.reset`, whose parameters are the model's choice (log 3), and after one cycle of reset from
any state with parameters that meet R7. -/
def Obligations.ResetEstablishesTheInvariant : Prop :=
  Inv State.reset ∧
    ∀ s t : State, s.params.wf = true → s.inputs.rst = true → step s = .next t → Inv t
end

