-- ==== Sys2Proof/Laws/State.lean ====
section
/-! SUPPORT. One lemma per register and register write: what the write leaves in it. With them no later proof unfolds a record
update. -/

namespace Sys2Proof.Machine

variable (b : Block) (s : State)

/-! ### `clearDone` -/

@[simp] theorem Block.clearDone_st : b.clearDone.st = b.st := rfl
@[simp] theorem Block.clearDone_cnt : b.clearDone.cnt = b.cnt := rfl
@[simp] theorem Block.clearDone_lowCnt : b.clearDone.lowCnt = b.lowCnt := rfl
@[simp] theorem Block.clearDone_bitIdx : b.clearDone.bitIdx = b.bitIdx := rfl
@[simp] theorem Block.clearDone_sr : b.clearDone.sr = b.sr := rfl
@[simp] theorem Block.clearDone_buf : b.clearDone.buf = b.buf := rfl
@[simp] theorem Block.clearDone_ok : b.clearDone.ok = b.ok := rfl
@[simp] theorem Block.clearDone_err : b.clearDone.err = b.err := rfl
@[simp] theorem Block.clearDone_done : b.clearDone.done = false := rfl
@[simp] theorem Block.clearDone_hit : b.clearDone.hit = b.hit := rfl
@[simp] theorem Block.clearDone_sync1 : b.clearDone.sync1 = b.sync1 := rfl
@[simp] theorem Block.clearDone_sync2 : b.clearDone.sync2 = b.sync2 := rfl
@[simp] theorem Block.clearDone_lastT : b.clearDone.lastT = b.lastT := rfl
@[simp] theorem Block.clearDone_hasRun : b.clearDone.hasRun = b.hasRun := rfl

/-! ### `complete` -/

@[simp] theorem Block.complete_st (k : Bool) (e : ErrBits) : (b.complete k e).st = b.st := rfl
@[simp] theorem Block.complete_cnt (k : Bool) (e : ErrBits) : (b.complete k e).cnt = b.cnt := rfl
@[simp] theorem Block.complete_lowCnt (k : Bool) (e : ErrBits) : (b.complete k e).lowCnt = b.lowCnt := rfl
@[simp] theorem Block.complete_bitIdx (k : Bool) (e : ErrBits) : (b.complete k e).bitIdx = b.bitIdx := rfl
@[simp] theorem Block.complete_sr (k : Bool) (e : ErrBits) : (b.complete k e).sr = b.sr := rfl
@[simp] theorem Block.complete_buf (k : Bool) (e : ErrBits) : (b.complete k e).buf = b.buf := rfl
@[simp] theorem Block.complete_ok (k : Bool) (e : ErrBits) : (b.complete k e).ok = k := rfl
@[simp] theorem Block.complete_err (k : Bool) (e : ErrBits) : (b.complete k e).err = e := rfl
@[simp] theorem Block.complete_done (k : Bool) (e : ErrBits) : (b.complete k e).done = true := rfl
@[simp] theorem Block.complete_hit (k : Bool) (e : ErrBits) : (b.complete k e).hit = false := rfl
@[simp] theorem Block.complete_sync1 (k : Bool) (e : ErrBits) : (b.complete k e).sync1 = b.sync1 := rfl
@[simp] theorem Block.complete_sync2 (k : Bool) (e : ErrBits) : (b.complete k e).sync2 = b.sync2 := rfl
@[simp] theorem Block.complete_lastT (k : Bool) (e : ErrBits) : (b.complete k e).lastT = b.lastT := rfl
@[simp] theorem Block.complete_hasRun (k : Bool) (e : ErrBits) : (b.complete k e).hasRun = b.hasRun := rfl

/-! ### `completeHit` -/

@[simp] theorem Block.completeHit_st : b.completeHit.st = b.st := rfl
@[simp] theorem Block.completeHit_cnt : b.completeHit.cnt = b.cnt := rfl
@[simp] theorem Block.completeHit_lowCnt : b.completeHit.lowCnt = b.lowCnt := rfl
@[simp] theorem Block.completeHit_bitIdx : b.completeHit.bitIdx = b.bitIdx := rfl
@[simp] theorem Block.completeHit_sr : b.completeHit.sr = b.sr := rfl
@[simp] theorem Block.completeHit_buf : b.completeHit.buf = b.buf := rfl
@[simp] theorem Block.completeHit_ok : b.completeHit.ok = b.ok := rfl
@[simp] theorem Block.completeHit_err : b.completeHit.err = b.err := rfl
@[simp] theorem Block.completeHit_done : b.completeHit.done = true := rfl
@[simp] theorem Block.completeHit_hit : b.completeHit.hit = true := rfl
@[simp] theorem Block.completeHit_sync1 : b.completeHit.sync1 = b.sync1 := rfl
@[simp] theorem Block.completeHit_sync2 : b.completeHit.sync2 = b.sync2 := rfl
@[simp] theorem Block.completeHit_lastT : b.completeHit.lastT = b.lastT := rfl
@[simp] theorem Block.completeHit_hasRun : b.completeHit.hasRun = b.hasRun := rfl

/-! ### `goto` -/

@[simp] theorem Block.goto_st (v : StateCode) : (b.goto v).st = v := rfl
@[simp] theorem Block.goto_cnt (v : StateCode) : (b.goto v).cnt = b.cnt := rfl
@[simp] theorem Block.goto_lowCnt (v : StateCode) : (b.goto v).lowCnt = b.lowCnt := rfl
@[simp] theorem Block.goto_bitIdx (v : StateCode) : (b.goto v).bitIdx = b.bitIdx := rfl
@[simp] theorem Block.goto_sr (v : StateCode) : (b.goto v).sr = b.sr := rfl
@[simp] theorem Block.goto_buf (v : StateCode) : (b.goto v).buf = b.buf := rfl
@[simp] theorem Block.goto_ok (v : StateCode) : (b.goto v).ok = b.ok := rfl
@[simp] theorem Block.goto_err (v : StateCode) : (b.goto v).err = b.err := rfl
@[simp] theorem Block.goto_done (v : StateCode) : (b.goto v).done = b.done := rfl
@[simp] theorem Block.goto_hit (v : StateCode) : (b.goto v).hit = b.hit := rfl
@[simp] theorem Block.goto_sync1 (v : StateCode) : (b.goto v).sync1 = b.sync1 := rfl
@[simp] theorem Block.goto_sync2 (v : StateCode) : (b.goto v).sync2 = b.sync2 := rfl
@[simp] theorem Block.goto_lastT (v : StateCode) : (b.goto v).lastT = b.lastT := rfl
@[simp] theorem Block.goto_hasRun (v : StateCode) : (b.goto v).hasRun = b.hasRun := rfl

/-! ### `setCnt` -/

@[simp] theorem Block.setCnt_st (n : Nat) : (b.setCnt n).st = b.st := rfl
@[simp] theorem Block.setCnt_cnt (n : Nat) : (b.setCnt n).cnt = n := rfl
@[simp] theorem Block.setCnt_lowCnt (n : Nat) : (b.setCnt n).lowCnt = b.lowCnt := rfl
@[simp] theorem Block.setCnt_bitIdx (n : Nat) : (b.setCnt n).bitIdx = b.bitIdx := rfl
@[simp] theorem Block.setCnt_sr (n : Nat) : (b.setCnt n).sr = b.sr := rfl
@[simp] theorem Block.setCnt_buf (n : Nat) : (b.setCnt n).buf = b.buf := rfl
@[simp] theorem Block.setCnt_ok (n : Nat) : (b.setCnt n).ok = b.ok := rfl
@[simp] theorem Block.setCnt_err (n : Nat) : (b.setCnt n).err = b.err := rfl
@[simp] theorem Block.setCnt_done (n : Nat) : (b.setCnt n).done = b.done := rfl
@[simp] theorem Block.setCnt_hit (n : Nat) : (b.setCnt n).hit = b.hit := rfl
@[simp] theorem Block.setCnt_sync1 (n : Nat) : (b.setCnt n).sync1 = b.sync1 := rfl
@[simp] theorem Block.setCnt_sync2 (n : Nat) : (b.setCnt n).sync2 = b.sync2 := rfl
@[simp] theorem Block.setCnt_lastT (n : Nat) : (b.setCnt n).lastT = b.lastT := rfl
@[simp] theorem Block.setCnt_hasRun (n : Nat) : (b.setCnt n).hasRun = b.hasRun := rfl

/-! ### `setLowCnt` -/

@[simp] theorem Block.setLowCnt_st (n : Nat) : (b.setLowCnt n).st = b.st := rfl
@[simp] theorem Block.setLowCnt_cnt (n : Nat) : (b.setLowCnt n).cnt = b.cnt := rfl
@[simp] theorem Block.setLowCnt_lowCnt (n : Nat) : (b.setLowCnt n).lowCnt = n := rfl
@[simp] theorem Block.setLowCnt_bitIdx (n : Nat) : (b.setLowCnt n).bitIdx = b.bitIdx := rfl
@[simp] theorem Block.setLowCnt_sr (n : Nat) : (b.setLowCnt n).sr = b.sr := rfl
@[simp] theorem Block.setLowCnt_buf (n : Nat) : (b.setLowCnt n).buf = b.buf := rfl
@[simp] theorem Block.setLowCnt_ok (n : Nat) : (b.setLowCnt n).ok = b.ok := rfl
@[simp] theorem Block.setLowCnt_err (n : Nat) : (b.setLowCnt n).err = b.err := rfl
@[simp] theorem Block.setLowCnt_done (n : Nat) : (b.setLowCnt n).done = b.done := rfl
@[simp] theorem Block.setLowCnt_hit (n : Nat) : (b.setLowCnt n).hit = b.hit := rfl
@[simp] theorem Block.setLowCnt_sync1 (n : Nat) : (b.setLowCnt n).sync1 = b.sync1 := rfl
@[simp] theorem Block.setLowCnt_sync2 (n : Nat) : (b.setLowCnt n).sync2 = b.sync2 := rfl
@[simp] theorem Block.setLowCnt_lastT (n : Nat) : (b.setLowCnt n).lastT = b.lastT := rfl
@[simp] theorem Block.setLowCnt_hasRun (n : Nat) : (b.setLowCnt n).hasRun = b.hasRun := rfl

/-! ### `pushBit` -/

@[simp] theorem Block.pushBit_st (v : Bool) : (b.pushBit v).st = b.st := rfl
@[simp] theorem Block.pushBit_cnt (v : Bool) : (b.pushBit v).cnt = b.cnt := rfl
@[simp] theorem Block.pushBit_lowCnt (v : Bool) : (b.pushBit v).lowCnt = b.lowCnt := rfl
@[simp] theorem Block.pushBit_bitIdx (v : Bool) : (b.pushBit v).bitIdx = b.bitIdx + 1#6 := rfl
@[simp] theorem Block.pushBit_sr (v : Bool) : (b.pushBit v).sr = shiftIn b.sr v := rfl
@[simp] theorem Block.pushBit_buf (v : Bool) : (b.pushBit v).buf = b.buf := rfl
@[simp] theorem Block.pushBit_ok (v : Bool) : (b.pushBit v).ok = b.ok := rfl
@[simp] theorem Block.pushBit_err (v : Bool) : (b.pushBit v).err = b.err := rfl
@[simp] theorem Block.pushBit_done (v : Bool) : (b.pushBit v).done = b.done := rfl
@[simp] theorem Block.pushBit_hit (v : Bool) : (b.pushBit v).hit = b.hit := rfl
@[simp] theorem Block.pushBit_sync1 (v : Bool) : (b.pushBit v).sync1 = b.sync1 := rfl
@[simp] theorem Block.pushBit_sync2 (v : Bool) : (b.pushBit v).sync2 = b.sync2 := rfl
@[simp] theorem Block.pushBit_lastT (v : Bool) : (b.pushBit v).lastT = b.lastT := rfl
@[simp] theorem Block.pushBit_hasRun (v : Bool) : (b.pushBit v).hasRun = b.hasRun := rfl

/-! ### `bufWrite` -/

@[simp] theorem Block.bufWrite_st (v : Frame) : (b.bufWrite v).st = b.st := rfl
@[simp] theorem Block.bufWrite_cnt (v : Frame) : (b.bufWrite v).cnt = b.cnt := rfl
@[simp] theorem Block.bufWrite_lowCnt (v : Frame) : (b.bufWrite v).lowCnt = b.lowCnt := rfl
@[simp] theorem Block.bufWrite_bitIdx (v : Frame) : (b.bufWrite v).bitIdx = b.bitIdx := rfl
@[simp] theorem Block.bufWrite_sr (v : Frame) : (b.bufWrite v).sr = b.sr := rfl
@[simp] theorem Block.bufWrite_buf (v : Frame) : (b.bufWrite v).buf = v := rfl
@[simp] theorem Block.bufWrite_ok (v : Frame) : (b.bufWrite v).ok = b.ok := rfl
@[simp] theorem Block.bufWrite_err (v : Frame) : (b.bufWrite v).err = b.err := rfl
@[simp] theorem Block.bufWrite_done (v : Frame) : (b.bufWrite v).done = b.done := rfl
@[simp] theorem Block.bufWrite_hit (v : Frame) : (b.bufWrite v).hit = b.hit := rfl
@[simp] theorem Block.bufWrite_sync1 (v : Frame) : (b.bufWrite v).sync1 = b.sync1 := rfl
@[simp] theorem Block.bufWrite_sync2 (v : Frame) : (b.bufWrite v).sync2 = b.sync2 := rfl
@[simp] theorem Block.bufWrite_lastT (v : Frame) : (b.bufWrite v).lastT = b.lastT := rfl
@[simp] theorem Block.bufWrite_hasRun (v : Frame) : (b.bufWrite v).hasRun = b.hasRun := rfl

/-! ### `clearFrame` -/

@[simp] theorem Block.clearFrame_st : b.clearFrame.st = b.st := rfl
@[simp] theorem Block.clearFrame_cnt : b.clearFrame.cnt = b.cnt := rfl
@[simp] theorem Block.clearFrame_lowCnt : b.clearFrame.lowCnt = 0 := rfl
@[simp] theorem Block.clearFrame_bitIdx : b.clearFrame.bitIdx = 0#6 := rfl
@[simp] theorem Block.clearFrame_sr : b.clearFrame.sr = 0#40 := rfl
@[simp] theorem Block.clearFrame_buf : b.clearFrame.buf = b.buf := rfl
@[simp] theorem Block.clearFrame_ok : b.clearFrame.ok = b.ok := rfl
@[simp] theorem Block.clearFrame_err : b.clearFrame.err = b.err := rfl
@[simp] theorem Block.clearFrame_done : b.clearFrame.done = b.done := rfl
@[simp] theorem Block.clearFrame_hit : b.clearFrame.hit = b.hit := rfl
@[simp] theorem Block.clearFrame_sync1 : b.clearFrame.sync1 = b.sync1 := rfl
@[simp] theorem Block.clearFrame_sync2 : b.clearFrame.sync2 = b.sync2 := rfl
@[simp] theorem Block.clearFrame_lastT : b.clearFrame.lastT = b.lastT := rfl
@[simp] theorem Block.clearFrame_hasRun : b.clearFrame.hasRun = b.hasRun := rfl

/-! ### `stamp` -/

@[simp] theorem Block.stamp_st (now : Stamp) : (b.stamp now).st = b.st := rfl
@[simp] theorem Block.stamp_cnt (now : Stamp) : (b.stamp now).cnt = b.cnt := rfl
@[simp] theorem Block.stamp_lowCnt (now : Stamp) : (b.stamp now).lowCnt = b.lowCnt := rfl
@[simp] theorem Block.stamp_bitIdx (now : Stamp) : (b.stamp now).bitIdx = b.bitIdx := rfl
@[simp] theorem Block.stamp_sr (now : Stamp) : (b.stamp now).sr = b.sr := rfl
@[simp] theorem Block.stamp_buf (now : Stamp) : (b.stamp now).buf = b.buf := rfl
@[simp] theorem Block.stamp_ok (now : Stamp) : (b.stamp now).ok = b.ok := rfl
@[simp] theorem Block.stamp_err (now : Stamp) : (b.stamp now).err = b.err := rfl
@[simp] theorem Block.stamp_done (now : Stamp) : (b.stamp now).done = b.done := rfl
@[simp] theorem Block.stamp_hit (now : Stamp) : (b.stamp now).hit = b.hit := rfl
@[simp] theorem Block.stamp_sync1 (now : Stamp) : (b.stamp now).sync1 = b.sync1 := rfl
@[simp] theorem Block.stamp_sync2 (now : Stamp) : (b.stamp now).sync2 = b.sync2 := rfl
@[simp] theorem Block.stamp_lastT (now : Stamp) : (b.stamp now).lastT = now := rfl
@[simp] theorem Block.stamp_hasRun (now : Stamp) : (b.stamp now).hasRun = true := rfl

/-! ### `latch` -/

@[simp] theorem Block.latch_st (level : Bool) : (b.latch level).st = b.st := rfl
@[simp] theorem Block.latch_cnt (level : Bool) : (b.latch level).cnt = b.cnt := rfl
@[simp] theorem Block.latch_lowCnt (level : Bool) : (b.latch level).lowCnt = b.lowCnt := rfl
@[simp] theorem Block.latch_bitIdx (level : Bool) : (b.latch level).bitIdx = b.bitIdx := rfl
@[simp] theorem Block.latch_sr (level : Bool) : (b.latch level).sr = b.sr := rfl
@[simp] theorem Block.latch_buf (level : Bool) : (b.latch level).buf = b.buf := rfl
@[simp] theorem Block.latch_ok (level : Bool) : (b.latch level).ok = b.ok := rfl
@[simp] theorem Block.latch_err (level : Bool) : (b.latch level).err = b.err := rfl
@[simp] theorem Block.latch_done (level : Bool) : (b.latch level).done = b.done := rfl
@[simp] theorem Block.latch_hit (level : Bool) : (b.latch level).hit = b.hit := rfl
@[simp] theorem Block.latch_sync1 (level : Bool) : (b.latch level).sync1 = level := rfl
@[simp] theorem Block.latch_sync2 (level : Bool) : (b.latch level).sync2 = b.sync1 := rfl
@[simp] theorem Block.latch_lastT (level : Bool) : (b.latch level).lastT = b.lastT := rfl
@[simp] theorem Block.latch_hasRun (level : Bool) : (b.latch level).hasRun = b.hasRun := rfl

/-! ### `advance` -/

@[simp] theorem State.advance_block : (s.advance b).block = b := rfl
@[simp] theorem State.advance_params : (s.advance b).params = s.params := rfl
@[simp] theorem State.advance_pending : (s.advance b).pending = s.pending.tail := rfl
@[simp] theorem State.advance_cycle : (s.advance b).cycle = s.cycle + 1 := rfl

end Sys2Proof.Machine
end

