-- ==== Sys2Proof/Laws/Ops.lean ====
section
/-! SUPPORT. One lemma per shared operation: everything it can do. -/

namespace Sys2Proof.Machine

variable {b c : Block} {p : Params} {s t : State}

/-! ## The inputs of the coming cycles -/

theorem inputs_of_pending {i : Inputs} {rest : List Inputs} (h : s.pending = i :: rest) : s.inputs = i := by
  simp [State.inputs, State.inputAt, h]

/-- Using up a cycle's inputs moves every later cycle one nearer. -/
@[simp] theorem inputAt_advance (n : Nat) : (s.advance b).inputAt n = s.inputAt (n + 1) := by
  simp only [State.inputAt, State.advance_pending, State.advance_cycle, List.getElem?_tail]
  rw [show s.cycle + 1 + n = s.cycle + (n + 1) by omega]

@[simp] theorem inputs_advance : (s.advance b).inputs = s.inputAt 1 := inputAt_advance 0

/-- Only the scheduled inputs and the cycle number matter to the inputs. -/
theorem inputAt_congr (hp : t.pending = s.pending) (hc : t.cycle = s.cycle) (n : Nat) : t.inputAt n = s.inputAt n := by
  simp [State.inputAt, hp, hc]

/-! ## Transactions -/

theorem accept_eq :
    b.accept = { b with st := St.settle, cnt := 0, lowCnt := 0, bitIdx := 0#6, sr := 0#40 } := rfl

theorem fail_eq (code : FailCode) :
    b.fail code = { b with buf := 0#40, ok := false, err := code.bits, hit := false, done := true, st := St.ready,
                           cnt := 0 } := rfl

theorem commitSuccess_eq :
    b.commitSuccess = { b with buf := b.sr, ok := true, err := Err.none, hit := false, done := true, st := St.ready,
                               cnt := 0 } := rfl

theorem miss_eq (now : Stamp) :
    b.miss now = { b with lastT := now, hasRun := true, st := St.settle, cnt := 0, lowCnt := 0, bitIdx := 0#6,
                          sr := 0#40 } := rfl

theorem captureBit_eq (v : Bool) :
    captureBit v b = { b with sr := shiftIn b.sr v, bitIdx := b.bitIdx + 1#6,
                              st := if b.bitIdx = 39#6 then St.check else St.bitLow } := rfl

@[simp] theorem fresh_clearDone (now : Stamp) : b.clearDone.fresh p now = b.fresh p now := rfl

@[simp] theorem sample_clearDone : b.clearDone.sample = b.sync2 := rfl

theorem FailCode.bits_used (code : FailCode) : Err.reserved code.bits = false := by cases code <;> decide

/-- A count below a duration that fits the register does not wrap (R23). -/
theorem nextCount_of_lt {n d : Nat} (h : n + 1 < d) (hd : d ≤ 2 ^ p.cntW) : nextCount p n = n + 1 :=
  Nat.mod_eq_of_lt (by omega)

/-! ## Timed and measuring states -/

/-- A timed phase leaves, or counts. -/
theorem timed_cases (d : Nat) (next : StateCode) :
    (b.cnt = d - 1 ∧ b.timed p d next = { b with st := next, cnt := 0 }) ∨
      (b.cnt ≠ d - 1 ∧ b.timed p d next = { b with cnt := nextCount p b.cnt }) := by
  by_cases h : b.cnt = d - 1
  · exact .inl ⟨h, by simp [Block.timed, h, Block.goto, Block.setCnt]⟩
  · exact .inr ⟨h, by simp [Block.timed, h, Block.setCnt]⟩

/-- The measuring primitive fails, counts, or exits (R130). -/
theorem measure_cases (level : Bool) (code : FailCode) (exit : Block → Block) :
    (b.sync2 = level ∧ b.cnt = p.tTimeout - 1 ∧ b.measure p level code exit = b.fail code) ∨
      (b.sync2 = level ∧ b.cnt ≠ p.tTimeout - 1 ∧
        b.measure p level code exit = { b with cnt := nextCount p b.cnt }) ∨
      (b.sync2 ≠ level ∧ b.measure p level code exit = (exit b).setCnt 0) := by
  by_cases h : b.sync2 = level
  · by_cases hc : b.cnt = p.tTimeout - 1
    · exact .inl ⟨h, hc, by simp [Block.measure, Block.sample, h, hc]⟩
    · exact .inr (.inl ⟨h, hc, by simp [Block.measure, Block.sample, h, hc, Block.setCnt]⟩)
  · exact .inr (.inr ⟨h, by simp [Block.measure, Block.sample, h]⟩)

/-! ## The cycle -/

theorem reservedValue_eq_none_iff :
    b.reservedValue = none ↔ Err.reserved b.err = false ∧ BitIdx.reserved b.bitIdx = false := by
  unfold Block.reservedValue
  cases h : Err.reserved b.err <;> cases h' : BitIdx.reserved b.bitIdx <;> simp

theorem tick_of_unreserved (op : Params → Inputs → Block → Block) (h : s.block.unreserved) :
    s.tick op = .next (s.advance ((op s.params s.inputs s.block.clearDone).latch s.inputs.dqIn)) := by
  simp [State.tick, show s.block.reservedValue = none from h]

theorem tick_next_iff (op : Params → Inputs → Block → Block) :
    s.tick op = .next t ↔
      s.block.unreserved ∧ t = s.advance ((op s.params s.inputs s.block.clearDone).latch s.inputs.dqIn) := by
  unfold State.tick Block.unreserved
  cases h : s.block.reservedValue <;> simp [eq_comm]

end Sys2Proof.Machine
end

