-- ==== Sys2Proof/Laws/Step.lean ====
section
/-! SUPPORT. What one step can do, said once: `stateOp` is the register transfer of a cycle without reset, and `step_eq` says
that a step is exactly it, behind the reset and the faults. -/

namespace Sys2Proof.Machine

variable {s t : State}

/-- The register transfer of `READY` (R100). -/
def readyOp (p : Params) (i : Inputs) (b : Block) : Block :=
  if !i.req then b
  else if !p.cacheEn then b.accept
  else if b.fresh p i.nowMs then b.completeHit
  else b.miss i.nowMs

/-- The register transfer of a cycle with `rst` = 0; none where `ST` is unused. -/
def stateOp (p : Params) (i : Inputs) (b : Block) : Option Block :=
  match b.st.toNat with
  | 0 => some (readyOp p i b)
  | 1 => some (b.timed p p.tIdle St.start)
  | 2 => some (b.timed p p.tStart St.release)
  | 3 => some (b.timed p p.tRelease St.respLow)
  | 4 => some (b.measure p true .noStartLow fun b => b.goto St.respHigh)
  | 5 => some (b.measure p false .noStartHigh fun b => b.goto St.respEnd)
  | 6 => some (b.measure p true .noStartHigh fun b => b.goto St.bitLow)
  | 7 => some (b.measure p false .bitTimeout fun b => (b.setLowCnt b.cnt).goto St.bitHigh)
  | 8 =>
    some (b.measure p true .bitTimeout fun b =>
      captureBit (match p.strategy with | .A => decideA b | .B => decideB p b) b)
  | 9 => some (if checksumOk b.sr then b.commitSuccess else b.fail .checksum)
  | _ => none

/-- The ten used codes, one by one. -/
theorem st_used_cases {v : StateCode} (h : St.reserved v = false) :
    v = 0#4 ∨ v = 1#4 ∨ v = 2#4 ∨ v = 3#4 ∨ v = 4#4 ∨ v = 5#4 ∨ v = 6#4 ∨ v = 7#4 ∨ v = 8#4 ∨ v = 9#4 := by
  revert v; decide

/-- The six unused codes, one by one. -/
theorem st_reserved_cases {v : StateCode} (h : St.reserved v = true) :
    v = 10#4 ∨ v = 11#4 ∨ v = 12#4 ∨ v = 13#4 ∨ v = 14#4 ∨ v = 15#4 := by
  revert v; decide

/-- The command table of R74 as one expression. -/
theorem decodeCommand_vector (c : SelectCtx) (r q b : Bool) :
    decodeCommand c (cmdVector r q b) =
      if r then .rst
      else if !q then .nop
      else if b then .reqIgnored
      else if !c.cacheEn then .reqAcquire
      else if c.fresh then .reqSampleHit
      else .reqSampleMiss := by
  cases r <;> cases q <;> cases b <;> rfl

/-- With `rst` = 1 the row is `RST` (R74, R100). -/
theorem selected_of_rst (h : s.inputs.rst = true) : s.selected = .rst := by
  simp [State.selected, State.command, State.cmdVector, decodeCommand_vector, h]

/-- In `READY` the row is the command of `req` (R100). -/
theorem selected_of_ready (h : s.inputs.rst = false) (hs : s.block.st = St.ready) :
    s.selected =
      if !s.inputs.req then .nop
      else if !s.params.cacheEn then .reqAcquire
      else if s.block.fresh s.params s.inputs.nowMs then .reqSampleHit
      else .reqSampleMiss := by
  simp [State.selected, State.command, State.cmdVector, decodeCommand_vector, State.selectCtx, Block.busy, h, hs]

/-- Elsewhere the row is the one of `ST` (R100). -/
theorem selected_of_busy (h : s.inputs.rst = false) (hs : s.block.st ≠ St.ready) : s.selected = s.microOp := by
  have hb : s.block.busy = true := by simpa [Block.busy] using hs
  simp [State.selected, h, hb]

/-- A step with `rst` = 1 (R240). -/
theorem step_of_rst (h : s.inputs.rst = true) : step s = .next (s.advance Block.reset) := by
  simp [step, selected_of_rst h, exec, execRst]

/-- Every used state has a register transfer, and only those. -/
theorem stateOp_isSome (p : Params) (i : Inputs) {b : Block} (h : St.reserved b.st = false) :
    ∃ c, stateOp p i b = some c := by
  rcases st_used_cases h with hv | hv | hv | hv | hv | hv | hv | hv | hv | hv <;> exact ⟨_, by simp [stateOp, hv]; rfl⟩

theorem used_of_stateOp {p : Params} {i : Inputs} {b c : Block} (h : stateOp p i b = some c) :
    St.reserved b.st = false := by
  by_contra hr
  rcases st_reserved_cases (by simpa using hr) with hv | hv | hv | hv | hv | hv <;> simp [stateOp, hv] at h

/-- A step with `rst` = 0 in a used state: the reserved values fault, otherwise the registers take `stateOp`. -/
theorem step_eq (h : s.inputs.rst = false) {c : Block}
    (hc : stateOp s.params s.inputs s.block.clearDone = some c) :
    step s = s.tick (fun _ _ _ => c) := by
  have hr : St.reserved s.block.st = false := used_of_stateOp (b := s.block.clearDone) hc
  by_cases h0 : s.block.st = St.ready
  · simp only [stateOp, Block.clearDone_st, h0] at hc
    obtain rfl : readyOp _ _ _ = c := by simpa using hc
    rw [step, selected_of_ready h h0]
    simp only [readyOp, fresh_clearDone]
    by_cases hq : s.inputs.req = true <;> by_cases hce : s.params.cacheEn = true <;>
      by_cases hf : s.block.fresh s.params s.inputs.nowMs = true <;>
      simp [exec, execNop, runState, execReqAcquire, execReqSampleHit, execReqSampleMiss, State.tick, hq, hce, hf, h0]
  · rw [step, selected_of_busy h h0, State.microOp]
    rcases st_used_cases hr with hv | hv | hv | hv | hv | hv | hv | hv | hv | hv
    · exact absurd hv h0
    case inr.inr.inr.inr.inr.inr.inr.inr.inl =>
      cases hs : s.params.strategy <;> simp [stateOp, hv, hs] at hc <;> subst hc <;>
        simp [decodeState, exec, execBitHighA, execBitHighB, State.tick, hv]
    all_goals
      simp [stateOp, hv] at hc
      subst hc
      simp [decodeState, exec, execSettle, execStart, execRelease, execRespLow, execRespHigh, execRespEnd, execBitLow,
        execCheck, State.tick, hv]

/-- A step in an unused state with `rst` = 0 faults (R77 b). -/
theorem step_of_reserved (h : s.inputs.rst = false) (hr : St.reserved s.block.st = true) :
    step s = .fault (.reservedState s.block.st) := by
  have h0 : s.block.st ≠ St.ready := by rintro h0; rw [h0] at hr; exact absurd hr (by decide)
  rw [step, selected_of_busy h h0, State.microOp]
  rcases st_reserved_cases hr with hv | hv | hv | hv | hv | hv <;> rw [hv] <;> rfl

/-- Everything a step that answers a next state can do. -/
theorem step_next_cases (h : step s = .next t) :
    (s.inputs.rst = true ∧ t = s.advance Block.reset) ∨
      (s.inputs.rst = false ∧ St.reserved s.block.st = false ∧ s.block.unreserved ∧
        ∃ c, stateOp s.params s.inputs s.block.clearDone = some c ∧ t = s.advance (c.latch s.inputs.dqIn)) := by
  cases hr : s.inputs.rst
  · right
    cases hst : St.reserved s.block.st
    · obtain ⟨c, hc⟩ := stateOp_isSome s.params s.inputs (b := s.block.clearDone) hst
      rw [step_eq hr hc, tick_next_iff] at h
      exact ⟨rfl, rfl, h.1, c, hc, h.2⟩
    · rw [step_of_reserved hr hst] at h
      cases h
  · left
    rw [step_of_rst hr] at h
    exact ⟨rfl, by cases h; rfl⟩

/-- A step without reset, in a used state with no reserved value, answers a next state. -/
theorem step_of_unreserved (h : s.inputs.rst = false) (hu : s.block.unreserved) {c : Block}
    (hc : stateOp s.params s.inputs s.block.clearDone = some c) :
    step s = .next (s.advance (c.latch s.inputs.dqIn)) := by
  rw [step_eq h hc, tick_of_unreserved _ hu]

/-- Running `k + 1` cycles is one step and `k` cycles. -/
theorem run_succ (k : Nat) (h : step s = .next t) : run (k + 1) s = run k t := by simp [run, h]

/-- A run of `j + k` cycles goes through the state after `j`. -/
theorem run_add (j k : Nat) {s t : State} (h : run j s = .next t) : run (j + k) s = run k t := by
  induction j generalizing s with
  | zero => cases h; simp
  | succ j ih =>
    rw [Nat.succ_add, run]
    rw [run] at h
    cases hs : step s with
    | next u => rw [hs] at h; exact ih h
    | fault f => rw [hs] at h; cases h
    | refused r => rw [hs] at h; cases h

end Sys2Proof.Machine
end

