-- ==== Sys2Proof/Laws/Transfer.lean ====
section
/-! SUPPORT. The register transfer of a cycle as a closed list of cases, each with its guard and every register it writes:
what the proofs about steps split on. -/

namespace Sys2Proof.Machine

variable {p : Params} {i : Inputs} {b c : Block} {s t : State}

/-- The timed phases: state, duration, next state (R104, R105, R106). -/
inductive TimedRow (p : Params) : StateCode → Nat → StateCode → Prop where
  | settle : TimedRow p St.settle p.tIdle St.start
  | start : TimedRow p St.start p.tStart St.release
  | release : TimedRow p St.release p.tRelease St.respLow

/-- The measuring states: state, level, failure (R107, R108, R109, R133, R134). -/
inductive MeasureRow : StateCode → Bool → FailCode → Prop where
  | respLow : MeasureRow St.respLow true .noStartLow
  | respHigh : MeasureRow St.respHigh false .noStartHigh
  | respEnd : MeasureRow St.respEnd true .noStartHigh
  | bitLow : MeasureRow St.bitLow false .bitTimeout
  | bitHigh : MeasureRow St.bitHigh true .bitTimeout

/-- The bit `BIT_HIGH` decides (R134, R135). -/
def decidedBit (p : Params) (b : Block) : Bool :=
  match p.strategy with
  | .A => decideA b
  | .B => decideB p b

/-- All a cycle without reset can do to the registers (`DONE` already cleared, the synchronizer not yet moved). -/
inductive Transfer (p : Params) (i : Inputs) (b : Block) : Block → Prop where
  | idle (hs : b.st = St.ready) (hq : i.req = false) : Transfer p i b b
  | acquire (hs : b.st = St.ready) (hq : i.req = true) (hc : p.cacheEn = false) :
      Transfer p i b { b with st := St.settle, cnt := 0, lowCnt := 0, bitIdx := 0#6, sr := 0#40 }
  | hit (hs : b.st = St.ready) (hq : i.req = true) (hc : p.cacheEn = true) (hf : b.fresh p i.nowMs = true) :
      Transfer p i b { b with hit := true, done := true }
  | miss (hs : b.st = St.ready) (hq : i.req = true) (hc : p.cacheEn = true) (hf : b.fresh p i.nowMs = false) :
      Transfer p i b
        { b with lastT := i.nowMs, hasRun := true, st := St.settle, cnt := 0, lowCnt := 0, bitIdx := 0#6, sr := 0#40 }
  | leave {st next : StateCode} {d : Nat} (h : TimedRow p st d next) (hs : b.st = st) (hd : b.cnt = d - 1) :
      Transfer p i b { b with st := next, cnt := 0 }
  | wait {st next : StateCode} {d : Nat} (h : TimedRow p st d next) (hs : b.st = st) (hd : b.cnt ≠ d - 1) :
      Transfer p i b { b with cnt := nextCount p b.cnt }
  | expire {st : StateCode} {level : Bool} {code : FailCode} (h : MeasureRow st level code) (hs : b.st = st)
      (hl : b.sync2 = level) (hd : b.cnt = p.tTimeout - 1) :
      Transfer p i b
        { b with buf := 0#40, ok := false, err := code.bits, hit := false, done := true, st := St.ready, cnt := 0 }
  | count {st : StateCode} {level : Bool} {code : FailCode} (h : MeasureRow st level code) (hs : b.st = st)
      (hl : b.sync2 = level) (hd : b.cnt ≠ p.tTimeout - 1) : Transfer p i b { b with cnt := nextCount p b.cnt }
  | respLow (hs : b.st = St.respLow) (hl : b.sync2 = false) : Transfer p i b { b with st := St.respHigh, cnt := 0 }
  | respHigh (hs : b.st = St.respHigh) (hl : b.sync2 = true) : Transfer p i b { b with st := St.respEnd, cnt := 0 }
  | respEnd (hs : b.st = St.respEnd) (hl : b.sync2 = false) : Transfer p i b { b with st := St.bitLow, cnt := 0 }
  | bitLow (hs : b.st = St.bitLow) (hl : b.sync2 = true) :
      Transfer p i b { b with lowCnt := b.cnt, st := St.bitHigh, cnt := 0 }
  | bitHigh (hs : b.st = St.bitHigh) (hl : b.sync2 = false) :
      Transfer p i b
        { b with sr := shiftIn b.sr (decidedBit p b), bitIdx := b.bitIdx + 1#6,
                 st := if b.bitIdx = 39#6 then St.check else St.bitLow, cnt := 0 }
  | commit (hs : b.st = St.check) (hk : checksumOk b.sr = true) :
      Transfer p i b
        { b with buf := b.sr, ok := true, err := Err.none, hit := false, done := true, st := St.ready, cnt := 0 }
  | reject (hs : b.st = St.check) (hk : checksumOk b.sr = false) :
      Transfer p i b
        { b with buf := 0#40, ok := false, err := FailCode.checksum.bits, hit := false, done := true, st := St.ready,
                 cnt := 0 }

theorem timed_transfer {st next : StateCode} {d : Nat} (h : TimedRow p st d next) (hs : b.st = st) :
    Transfer p i b (b.timed p d next) := by
  rcases timed_cases (b := b) (p := p) d next with ⟨hd, e⟩ | ⟨hd, e⟩
  · rw [e]; exact .leave h hs hd
  · rw [e]; exact .wait h hs hd

theorem measure_transfer {st : StateCode} {level : Bool} {code : FailCode} {exit : Block → Block}
    (h : MeasureRow st level code) (hs : b.st = st)
    (hx : b.sync2 ≠ level → Transfer p i b ((exit b).setCnt 0)) : Transfer p i b (b.measure p level code exit) := by
  rcases measure_cases (b := b) (p := p) level code exit with ⟨hl, hd, e⟩ | ⟨hl, hd, e⟩ | ⟨hl, e⟩
  · rw [e]; exact .expire h hs hl hd
  · rw [e]; exact .count h hs hl hd
  · rw [e]; exact hx hl

/-- `stateOp` does nothing but the cases of `Transfer`. -/
theorem stateOp_transfer (h : stateOp p i b = some c) : Transfer p i b c := by
  rcases st_used_cases (used_of_stateOp h) with hv | hv | hv | hv | hv | hv | hv | hv | hv | hv <;>
    simp [stateOp, hv] at h <;> subst h
  · by_cases hq : i.req = true
    · by_cases hc : p.cacheEn = true
      · by_cases hf : b.fresh p i.nowMs = true
        · rw [show readyOp p i b = b.completeHit by simp [readyOp, hq, hc, hf]]; exact .hit hv hq hc hf
        · rw [show readyOp p i b = b.miss i.nowMs by simp [readyOp, hq, hc, hf]]; exact .miss hv hq hc (by simpa using hf)
      · rw [show readyOp p i b = b.accept by simp [readyOp, hq, hc]]; exact .acquire hv hq (by simpa using hc)
    · simpa [readyOp, hq] using Transfer.idle hv (by simpa using hq)
  · exact timed_transfer .settle hv
  · exact timed_transfer .start hv
  · exact timed_transfer .release hv
  · exact measure_transfer .respLow hv fun hl => .respLow hv (by simpa using hl)
  · exact measure_transfer .respHigh hv fun hl => .respHigh hv (by simpa using hl)
  · exact measure_transfer .respEnd hv fun hl => .respEnd hv (by simpa using hl)
  · exact measure_transfer .bitLow hv fun hl => .bitLow hv (by simpa using hl)
  · exact measure_transfer .bitHigh hv fun hl => .bitHigh hv (by simpa using hl)
  · cases hk : checksumOk b.sr
    · rw [if_neg (by simp)]; exact .reject hv hk
    · rw [if_pos rfl]; exact .commit hv hk

/-- Everything a step that answers a next state can do, case by case. -/
theorem step_transfer (h : step s = .next t) :
    (s.inputs.rst = true ∧ t = s.advance Block.reset) ∨
      (s.inputs.rst = false ∧ s.block.unreserved ∧
        ∃ c, Transfer s.params s.inputs s.block.clearDone c ∧ t = s.advance (c.latch s.inputs.dqIn)) := by
  rcases step_next_cases h with h | ⟨hr, _, hu, c, hc, rfl⟩
  · exact .inl h
  · exact .inr ⟨hr, hu, c, stateOp_transfer hc, rfl⟩

/-- A transfer never writes the synchronizer, and leaves `DONE` at 1 only in `READY`. -/
theorem Transfer.sync1_eq (h : Transfer p i b c) : c.sync1 = b.sync1 := by cases h <;> rfl

theorem Transfer.done_ready (h : Transfer p i b c) (hb : b.done = false) (hc : c.done = true) : c.st = St.ready := by
  cases h <;> simp_all

end Sys2Proof.Machine
end

