-- ==== Sys2Proof/Laws/Exec.lean ====
section
/-! SUPPORT. One equation per row: the cycle its meaning is; and the small facts the per-row statements rest on. -/

namespace Sys2Proof.Machine

variable {s t : State} {p : Params}

/-! ## The meaning of each row as a cycle -/

theorem exec_rst (s : State) : exec .rst s = .next (s.advance Block.reset) := rfl

theorem exec_nop (s : State) : exec .nop s = runState s := rfl

theorem exec_reqIgnored (s : State) : exec .reqIgnored s = runState s := rfl

theorem exec_reqAcquire (s : State) : exec .reqAcquire s = s.tick fun _ _ b => b.accept := rfl

theorem exec_reqSampleHit (s : State) : exec .reqSampleHit s = s.tick fun _ _ b => b.completeHit := rfl

theorem exec_reqSampleMiss (s : State) : exec .reqSampleMiss s = s.tick fun _ i b => b.miss i.nowMs := rfl

theorem exec_ready (s : State) : exec .ready s = s.tick readyOp := rfl

theorem exec_settle (s : State) : exec .settle s = s.tick fun p _ b => b.timed p p.tIdle St.start := rfl

theorem exec_start (s : State) : exec .start s = s.tick fun p _ b => b.timed p p.tStart St.release := rfl

theorem exec_release (s : State) : exec .release s = s.tick fun p _ b => b.timed p p.tRelease St.respLow := rfl

theorem exec_respLow (s : State) :
    exec .respLow s = s.tick fun p _ b => b.measure p true .noStartLow fun b => b.goto St.respHigh := rfl

theorem exec_respHigh (s : State) :
    exec .respHigh s = s.tick fun p _ b => b.measure p false .noStartHigh fun b => b.goto St.respEnd := rfl

theorem exec_respEnd (s : State) :
    exec .respEnd s = s.tick fun p _ b => b.measure p true .noStartHigh fun b => b.goto St.bitLow := rfl

theorem exec_bitLow (s : State) :
    exec .bitLow s =
      s.tick fun p _ b => b.measure p false .bitTimeout fun b => (b.setLowCnt b.cnt).goto St.bitHigh := rfl

theorem exec_bitHighA (s : State) :
    exec .bitHighA s =
      s.tick fun p _ b => b.measure p true .bitTimeout fun b => captureBit (decideA b) b := rfl

theorem exec_bitHighB (s : State) :
    exec .bitHighB s =
      s.tick fun p _ b => b.measure p true .bitTimeout fun b => captureBit (decideB p b) b := rfl

theorem exec_check (s : State) :
    exec .check s = s.tick fun _ _ b => if checksumOk b.sr then b.commitSuccess else b.fail .checksum := rfl

/-! ## `NOP` and `REQ_IGNORED` outside `READY` -/

theorem command_of_ready (h : s.inputs.rst = false) (h0 : s.block.st = St.ready) : s.command = s.selected := by
  simp [State.selected, h, Block.busy, h0]

/-- Outside `READY` the cycle of the state is the row of `ST`, unused states included (R101, R103). -/
theorem runState_of_busy (h0 : s.block.st ≠ St.ready) : runState s = exec s.microOp s := by
  cases hr : St.reserved s.block.st
  · rcases st_used_cases hr with hv | hv | hv | hv | hv | hv | hv | hv | hv | hv
    · exact absurd hv h0
    case inr.inr.inr.inr.inr.inr.inr.inr.inl =>
      cases hs : s.params.strategy <;> simp [runState, State.microOp, decodeState, hv, exec, hs]
    all_goals simp [runState, State.microOp, decodeState, hv, exec]
  · rcases st_reserved_cases hr with hv | hv | hv | hv | hv | hv <;>
      simp [runState, State.microOp, decodeState, hv, exec, execReservedSt10, execReservedSt11, execReservedSt12,
        execReservedSt13, execReservedSt14, execReservedSt15]

/-! ## What the invariant and the parameters give -/

theorem Inv.unreserved (h : Inv s) : s.block.unreserved := reservedValue_eq_none_iff.2 ⟨h.err_used, h.bitIdx_used⟩

/-- The constraints of R7, one by one. -/
theorem wf_iff :
    p.wf = true ↔
      1 ≤ p.tIdle ∧ 1 ≤ p.tStart ∧ 1 ≤ p.tRelease ∧ 1 ≤ p.tTimeout ∧ 1 ≤ p.tMin ∧ p.tMin < 2 ^ tsW ∧
        p.tIdle ≤ 2 ^ p.cntW ∧ p.tStart ≤ 2 ^ p.cntW ∧ p.tRelease ≤ 2 ^ p.cntW ∧ p.tTimeout ≤ 2 ^ p.cntW ∧
        p.threshold + 1 ≤ 2 ^ p.cntW := by
  simp [Params.wf, and_assoc]

/-! ## The shift and the checksum in whole numbers -/

/-- `{SR[38:0], b}` doubles the 40-bit value and adds the bit. -/
theorem shiftIn_toNat (v : Frame) (b : Bool) : (shiftIn v b).toNat = (2 * v.toNat + b.toNat) % 2 ^ 40 := by
  simp only [shiftIn, BitVec.toNat_concat, BitVec.toNat_setWidth]
  cases b <;> simp <;> omega

/-- `checksumOk` compares byte 4 with the sum of the others mod 256 (R160). -/
theorem checksumOk_iff_toNat (v : Frame) :
    checksumOk v = true ↔
      v.toNat % 256 =
        (v.toNat / 2 ^ 32 + v.toNat / 2 ^ 24 % 256 + v.toNat / 2 ^ 16 % 256 + v.toNat / 2 ^ 8 % 256) % 256 := by
  simp only [checksumOk, sum8, byteOf, beq_iff_eq, ← BitVec.toNat_inj]
  simp only [BitVec.toNat_add, BitVec.extractLsb'_toNat, Nat.shiftRight_eq_div_pow]
  have := v.isLt
  norm_num
  omega

end Sys2Proof.Machine
end

