-- ==== Sys2Proof/Laws/Invariant.lean ====
section
/-! SUPPORT. What a cycle's register transfer keeps, field by field of the invariant (10_state.md R38 and the rules beside it). -/

namespace Sys2Proof.Machine
variable {p : Params} {i : Inputs} {b c : Block} {s t : State}

theorem Transfer.st_used (h : Transfer p i b c) : St.reserved c.st = false := by
  cases h <;> (try cases ‹TimedRow _ _ _ _›) <;> (try cases ‹MeasureRow _ _ _›) <;> simp [St.reserved, *]
  split <;> decide

theorem Transfer.err_used (h : Transfer p i b c) (hb : Err.reserved b.err = false) : Err.reserved c.err = false := by
  cases h <;> (try cases ‹TimedRow _ _ _ _›) <;> (try cases ‹MeasureRow _ _ _›) <;> first | exact hb | exact FailCode.bits_used _ | rfl

theorem Transfer.cnt_fits (h : Transfer p i b c) (hb : b.cnt < 2 ^ p.cntW) : c.cnt < 2 ^ p.cntW := by
  have hp : 0 < 2 ^ p.cntW := Nat.two_pow_pos _
  cases h <;> first | exact hb | exact hp | exact Nat.mod_lt _ hp

theorem Transfer.lowCnt_bounded (h : Transfer p i b c) (hT : 0 < p.tTimeout) (hb : b.lowCnt < p.tTimeout)
    (hm : St.measuring b.st = true → b.cnt < p.tTimeout) : c.lowCnt < p.tTimeout := by
  cases h <;> first | exact hb | exact hT | exact hm (by simp [St.measuring, *])

theorem Transfer.buf_checked (h : Transfer p i b c) (hb : b.buf = 0#40 ∨ checksumOk b.buf = true) :
    c.buf = 0#40 ∨ checksumOk c.buf = true := by
  cases h <;> first | exact hb | exact .inl rfl | exact .inr ‹_›

theorem Transfer.ok_success (h : Transfer p i b c) (hb : b.ok = true → b.err = Err.none ∧ checksumOk b.buf = true) :
    c.ok = true → c.err = Err.none ∧ checksumOk c.buf = true := by
  cases h <;> first | exact hb | exact fun _ => ⟨rfl, ‹_›⟩ | (intro h; cases h)

theorem Transfer.failed_zero (h : Transfer p i b c) (hb : b.ok = false → b.buf = 0#40) :
    c.ok = false → c.buf = 0#40 := by
  cases h <;> first | exact hb | exact fun _ => rfl | (intro h; cases h)

theorem Transfer.idle_cnt (h : Transfer p i b c) (hb : b.st = St.ready ∨ b.st = St.check → b.cnt = 0) :
    c.st = St.ready ∨ c.st = St.check → c.cnt = 0 := by
  cases h <;> (try cases ‹TimedRow _ _ _ _›) <;> (try cases ‹MeasureRow _ _ _›) <;>
    first | exact hb | exact fun _ => rfl | simp [*]

theorem bitIdx_succ (hb : b.bitIdx.toNat ≤ 39) : (b.bitIdx + 1#6).toNat = b.bitIdx.toNat + 1 := by
  rw [BitVec.toNat_add]
  exact Nat.mod_eq_of_lt (by simp; omega)

/-- Where the bits are, in every state (R25, R38 e). -/
structure BitsInPlace (b : Block) : Prop where
  used : b.bitIdx.toNat ≤ 40
  capturing : b.st = St.bitLow ∨ b.st = St.bitHigh → b.bitIdx.toNat ≤ 39
  checking : b.st = St.check → b.bitIdx = 40#6
  before : St.inHandshake b.st = true → b.bitIdx = 0#6
  width : b.sr.toNat < 2 ^ b.bitIdx.toNat

theorem Transfer.bitsInPlace (h : Transfer p i b c) (hb : BitsInPlace b) : BitsInPlace c := by
  cases h
  case bitHigh hs hl =>
    have h39 : b.bitIdx.toNat ≤ 39 := hb.capturing (.inr hs)
    have hsucc := bitIdx_succ h39
    have hw : (shiftIn b.sr (decidedBit p b)).toNat < 2 ^ (b.bitIdx.toNat + 1) := by
      rw [shiftIn_toNat]
      refine lt_of_le_of_lt (Nat.mod_le _ _) ?_
      have := Bool.toNat_le (decidedBit p b)
      have := hb.width
      rw [pow_succ]; omega
    refine ⟨?_, ?_, ?_, ?_, ?_⟩
    · show (b.bitIdx + 1#6).toNat ≤ 40
      omega
    · show (if b.bitIdx = 39#6 then St.check else St.bitLow) = _ ∨ _ → (b.bitIdx + 1#6).toNat ≤ 39
      split
      · simp
      · next h40 =>
        have : b.bitIdx.toNat ≠ 39 := fun e => h40 (BitVec.eq_of_toNat_eq e)
        omega
    · show (if b.bitIdx = 39#6 then St.check else St.bitLow) = _ → b.bitIdx + 1#6 = 40#6
      split
      · next h40 => intro _; rw [h40]; rfl
      · simp
    · show St.inHandshake (if b.bitIdx = 39#6 then St.check else St.bitLow) = true → _
      split <;> simp [St.inHandshake]
    · show (shiftIn b.sr (decidedBit p b)).toNat < 2 ^ (b.bitIdx + 1#6).toNat
      rw [hsucc]; exact hw
  all_goals
    (try cases ‹TimedRow _ _ _ _›) <;> (try cases ‹MeasureRow _ _ _›) <;>
    obtain ⟨h1, h2, h3, h4, h5⟩ := hb <;> constructor <;> simp_all [St.inHandshake]

theorem Transfer.counts (h : Transfer p i b c) (hw : p.wf = true)
    (h1 : b.st = St.settle → b.cnt < p.tIdle) (h2 : b.st = St.start → b.cnt < p.tStart)
    (h3 : b.st = St.release → b.cnt < p.tRelease) (h4 : St.measuring b.st = true → b.cnt < p.tTimeout) :
    (c.st = St.settle → c.cnt < p.tIdle) ∧ (c.st = St.start → c.cnt < p.tStart) ∧
      (c.st = St.release → c.cnt < p.tRelease) ∧ (St.measuring c.st = true → c.cnt < p.tTimeout) := by
  obtain ⟨w1, w2, w3, w4, -, -, w5, w6, w7, w8, -⟩ := wf_iff.1 hw
  have step : ∀ d, b.cnt < d → d ≤ 2 ^ p.cntW → b.cnt ≠ d - 1 → nextCount p b.cnt < d := by
    intro d hd hf hn
    rw [nextCount_of_lt (d := d) (by omega) hf]; omega
  cases h
  case idle hs _ => simp [hs, St.measuring]
  case hit hs _ _ _ => simp [hs, St.measuring]
  case wait hT hs hd => cases hT <;> simp_all [St.measuring]
  case count hT hs hl hd => cases hT <;> simp_all [St.measuring]
  all_goals exact ⟨fun _ => w1, fun _ => w2, fun _ => w3, fun _ => w4⟩

theorem Transfer.hit_cache (h : Transfer p i b c) (hb : b.hit = true → p.cacheEn = true) :
    c.hit = true → p.cacheEn = true := by
  cases h <;> first | exact hb | exact fun _ => ‹_› | (intro h; cases h)

theorem Transfer.no_cache (h : Transfer p i b c) (hb : p.cacheEn = false → b.lastT = 0#32 ∧ b.hasRun = false) :
    p.cacheEn = false → c.lastT = 0#32 ∧ c.hasRun = false := by
  cases h <;> first | exact hb | (intro hc; simp_all)

theorem Transfer.ran_cache (h : Transfer p i b c)
    (hb : p.cacheEn = true → b.busy = true ∨ b.ok = true → b.hasRun = true) :
    p.cacheEn = true → c.busy = true ∨ c.ok = true → c.hasRun = true := by
  cases h <;> (try cases ‹TimedRow _ _ _ _›) <;> (try cases ‹MeasureRow _ _ _›) <;> simp_all [Block.busy]

theorem bitIdx_used_iff (v : BitIndex) : BitIdx.reserved v = false ↔ v.toNat ≤ 40 := by simp [BitIdx.reserved]

end Sys2Proof.Machine
end

