-- ==== Sys2Proof/Laws/PerInstr.lean ====
section
/-! SUPPORT. What is said of every row of the opcode table as syntax, one lemma per constructor. -/

namespace Sys2Proof.Laws.Unambiguous

/-- No other row of its format whose condition holds at the same time has its word (30_encoding.md R74: "selects exactly one
command", R75). -/
def Statement (i : Instr) : Prop :=
  ∀ (c : SelectCtx) (j : Instr), i.wf c = true → j.wf c = true → j.format = i.format → encodeWord j = encodeWord i → j = i

theorem rst : Statement .rst := by
  intro c j hi hj hf he
  cases j <;> simp_all [Instr.wf, Instr.format, encodeWord]

theorem nop : Statement .nop := by
  intro c j hi hj hf he
  cases j <;> simp_all [Instr.wf, Instr.format, encodeWord]

theorem reqAcquire : Statement .reqAcquire := by
  intro c j hi hj hf he
  cases j <;> simp_all [Instr.wf, Instr.format, encodeWord]

theorem reqSampleHit : Statement .reqSampleHit := by
  intro c j hi hj hf he
  cases j <;> simp_all [Instr.wf, Instr.format, encodeWord]

theorem reqSampleMiss : Statement .reqSampleMiss := by
  intro c j hi hj hf he
  cases j <;> simp_all [Instr.wf, Instr.format, encodeWord]

theorem reqIgnored : Statement .reqIgnored := by
  intro c j hi hj hf he
  cases j <;> simp_all [Instr.wf, Instr.format, encodeWord]

theorem ready : Statement .ready := by
  intro c j hi hj hf he
  cases j <;> simp_all [Instr.wf, Instr.format, encodeWord]

theorem settle : Statement .settle := by
  intro c j hi hj hf he
  cases j <;> simp_all [Instr.wf, Instr.format, encodeWord]

theorem start : Statement .start := by
  intro c j hi hj hf he
  cases j <;> simp_all [Instr.wf, Instr.format, encodeWord]

theorem release : Statement .release := by
  intro c j hi hj hf he
  cases j <;> simp_all [Instr.wf, Instr.format, encodeWord]

theorem respLow : Statement .respLow := by
  intro c j hi hj hf he
  cases j <;> simp_all [Instr.wf, Instr.format, encodeWord]

theorem respHigh : Statement .respHigh := by
  intro c j hi hj hf he
  cases j <;> simp_all [Instr.wf, Instr.format, encodeWord]

theorem respEnd : Statement .respEnd := by
  intro c j hi hj hf he
  cases j <;> simp_all [Instr.wf, Instr.format, encodeWord]

theorem bitLow : Statement .bitLow := by
  intro c j hi hj hf he
  cases j <;> simp_all [Instr.wf, Instr.format, encodeWord]

theorem bitHighA : Statement .bitHighA := by
  intro c j hi hj hf he
  cases j <;> simp_all [Instr.wf, Instr.format, encodeWord]

theorem bitHighB : Statement .bitHighB := by
  intro c j hi hj hf he
  cases j <;> simp_all [Instr.wf, Instr.format, encodeWord]

theorem check : Statement .check := by
  intro c j hi hj hf he
  cases j <;> simp_all [Instr.wf, Instr.format, encodeWord]

theorem reservedSt10 : Statement .reservedSt10 := by
  intro c j hi hj hf he
  cases j <;> simp_all [Instr.wf, Instr.format, encodeWord]

theorem reservedSt11 : Statement .reservedSt11 := by
  intro c j hi hj hf he
  cases j <;> simp_all [Instr.wf, Instr.format, encodeWord]

theorem reservedSt12 : Statement .reservedSt12 := by
  intro c j hi hj hf he
  cases j <;> simp_all [Instr.wf, Instr.format, encodeWord]

theorem reservedSt13 : Statement .reservedSt13 := by
  intro c j hi hj hf he
  cases j <;> simp_all [Instr.wf, Instr.format, encodeWord]

theorem reservedSt14 : Statement .reservedSt14 := by
  intro c j hi hj hf he
  cases j <;> simp_all [Instr.wf, Instr.format, encodeWord]

theorem reservedSt15 : Statement .reservedSt15 := by
  intro c j hi hj hf he
  cases j <;> simp_all [Instr.wf, Instr.format, encodeWord]

end Sys2Proof.Laws.Unambiguous
end

