-- ==== Sys2Proof/Machine/Stimulus.lean ====
section
/-! DEFINITION. The stimulus notation of 30_encoding.md R79 and its pseudo-instructions (R80): programs for a block without
instructions are scripts of what the host presents and of what the sensor pulls. Nothing of the machine reads this file. -/

namespace Sys2Proof.Machine

/-- What the host presents in one cycle (R79): `RST`, `REQ t`, `NOP`. -/
inductive HostCmd where
  | rst
  | req (t : Stamp)
  | nop
  deriving DecidableEq, Repr

/-- A line `@n <command>`. -/
structure HostLine where
  cycle : Nat
  cmd : HostCmd
  deriving DecidableEq, Repr

/-- The command of cycle n: "Every cycle no line names is a `NOP`" (R79). DESIGN CHOICE (log 21), where R79 says nothing of two
lines for one cycle: the first in the list counts. -/
def hostAt : List HostLine → Nat → HostCmd
  | [], _ => .nop
  | l :: ls, n => if l.cycle = n then l.cmd else hostAt ls n

/-- `Lk` or `Hk`: the sensor pulls the line low, or releases it, for k cycles (R79). -/
structure Pulse where
  low : Bool
  cycles : Nat
  deriving DecidableEq, Repr

/-- Whether the sensor pulls k cycles into its script; "after the script it releases the line" (R79). -/
def sensorPulls : List Pulse → Nat → Bool
  | [], _ => false
  | p :: ps, k => if k < p.cycles then p.low else sensorPulls ps (k - p.cycles)

/-- `SENSOR @RESP_LOW+d: ...` (R79). -/
structure SensorScript where
  delay : Nat
  pulses : List Pulse
  deriving DecidableEq, Repr

/-- Whether the sensor pulls in the k-th cycle from the transaction's first `RESP_LOW` cycle. -/
def SensorScript.pulls (c : SensorScript) (k : Nat) : Bool :=
  if k < c.delay then false else sensorPulls c.pulses (k - c.delay)

/-- The pulses of one byte, most significant bit first (R80). -/
def bytePulses (lo h0 h1 : Nat) (b : BitVec 8) : List Pulse :=
  (List.range 8).flatMap fun j => [⟨true, lo⟩, ⟨false, if b.getLsbD (7 - j) then h1 else h0⟩]

/-- `FRAME b0 b1 b2 b3 b4 / lo=a h0=x h1=y end=e` (R80). -/
def framePulses (bytes : List (BitVec 8)) (lo h0 h1 trailer : Nat) : List Pulse :=
  bytes.flatMap (bytePulses lo h0 h1) ++ [⟨true, trailer⟩]

/-- The line level (R79): 0 if the block drives 0 or the sensor pulls low, 1 otherwise, and unspecified (`contention`) while
the block drives 1 and the sensor pulls low (R248). PRESUMED by the spec (G2, log 14). -/
def lineLevel (pad : Pad) (pulls contention : Bool) : Bool :=
  if pad.oe && pad.o && pulls then contention
  else !((pad.oe && !pad.o) || pulls)

/-- A machine on the bench: the host's lines, the sensor's scripts (one for each transaction that reaches `RESP_LOW`, the current
one first; DESIGN CHOICE, log 20), and how many cycles ago the current script's transaction first was in `RESP_LOW`. -/
structure Bench where
  machine : State
  host : List HostLine
  scripts : List SensorScript
  since : Option Nat
  deriving DecidableEq, Repr

/-- "c is the first cycle of the transaction with `ST` = `RESP_LOW`" (R79): there `CNT` is 0, and in no later one. -/
def Bench.firstRespLow (w : Bench) : Bool :=
  w.machine.block.st == St.respLow && w.machine.block.cnt == 0

/-- The bench with the script position of this cycle: the first `RESP_LOW` cycle of a transaction takes the next script. DESIGN
CHOICE (log 20), where R79 says nothing of several transactions: one that is reset before `RESP_LOW` takes no script, and a
script that still runs is cut off there, not at the completion or reset before. -/
def Bench.position (w : Bench) : Bench :=
  if w.firstRespLow then
    match w.since with
    | none => { w with since := some 0 }
    | some _ => { w with since := some 0, scripts := w.scripts.tail }
  else { w with since := w.since.map (· + 1) }

/-- Whether the sensor pulls in this cycle, the position being this cycle's. -/
def Bench.pulls (w : Bench) : Bool :=
  match w.since, w.scripts with
  | some k, c :: _ => c.pulls k
  | _, _ => false

/-- The inputs of this cycle for a host command. DESIGN CHOICE, where R79 gives no value: `now_ms` is 0 without a request (log 14),
`req` is 0 in an `RST` cycle, and in an unused `ST`, which drives nothing the spec knows, the sensor alone makes the level
(log 21). -/
def Bench.inputs (w : Bench) (cmd : HostCmd) : Inputs :=
  let level :=
    match padOf w.machine.block.st with
    | some pad => lineLevel pad w.pulls (Config.contentionLevel w.machine.cycle)
    | none => !w.pulls
  match cmd with
  | .rst => { rst := true, req := false, nowMs := 0#32, dqIn := level }
  | .req t => { rst := false, req := true, nowMs := t, dqIn := level }
  | .nop => { rst := false, req := false, nowMs := 0#32, dqIn := level }

/-- One cycle under a host command; nothing where the machine stops. -/
def Bench.cycleWith (w : Bench) (cmd : HostCmd) : Option Bench :=
  let w := w.position
  match step { w.machine with pending := [w.inputs cmd] } with
  | .next t => some { w with machine := t }
  | .fault _ => none
  | .refused _ => none

/-- One cycle of the program. -/
def Bench.step (w : Bench) : Option Bench := w.cycleWith (hostAt w.host w.machine.cycle)

/-- `k` cycles of the program. -/
def Bench.run : Nat → Bench → Option Bench
  | 0, w => some w
  | k + 1, w => w.step.bind (Bench.run k)

/-- `WAITDONE`: "`NOP` in every cycle until the first cycle with `done` = 1, inclusive" (R80). DESIGN CHOICE (log 21): at most
`fuel` cycles, nothing where they run out, and the bench's own host lines are not read in them. -/
def Bench.waitDone : Nat → Bench → Option Bench
  | 0, _ => none
  | fuel + 1, w =>
    if w.machine.block.done then w.cycleWith .nop else (w.cycleWith .nop).bind (Bench.waitDone fuel)

/-- `REQFULL t`: "`REQ t` followed by `WAITDONE`" (R80). -/
def Bench.reqFull (fuel : Nat) (t : Stamp) (w : Bench) : Option Bench :=
  (w.cycleWith (.req t)).bind (Bench.waitDone fuel)

end Sys2Proof.Machine
end

