-- ==== Sys2Proof/Tests/Slice0.lean ====
section
/-! SUPPORT. The model's own tests. Expected values are the spec's: the tables of 95_test_vectors.md §2, cited test by test. The
second half has one witness for the hypotheses of every obligation that has some. -/

namespace Sys2Proof.Tests

open Sys2Proof Sys2Proof.Machine Sys2Proof.Claims

/-! ## Helpers -/

/-- A cycle in which the host presents nothing, with the line at `level`. -/
def quiet (level : Bool) : Inputs := { rst := false, req := false, nowMs := 0#32, dqIn := level }

/-- A cycle with a request at time `now`, the line high. -/
def reqAt (now : Stamp) : Inputs := { rst := false, req := true, nowMs := now, dqIn := true }

/-- A cycle of reset. -/
def rstIn : Inputs := { rst := true, req := true, nowMs := 7#32, dqIn := false }

/-- A machine with the registers `b` and the inputs `ins` scheduled. -/
def machine (p : Params) (b : Block) (ins : List Inputs) : State := { params := p, block := b, pending := ins, cycle := 0 }

/-- The common setting with the given registers and one cycle of inputs. -/
def common1 (b : Block) (i : Inputs) : State := machine Params.common b [i]

/-- Registers in the state `st` with count `cnt` and sample `s`, as a transaction that captured no bit (or, in `CHECK`, forty
zero bits) leaves them. -/
def blockAt (st : StateCode) (cnt : Nat) (s : Bool) : Block :=
  { Block.reset with st := st, cnt := cnt, hasRun := true, sync2 := s, bitIdx := if st = St.check then 40#6 else 0#6 }

/-- Registers in `READY` with a stored timestamp and results of an earlier success. -/
def readyAt (lastT : Stamp) : Block :=
  { Block.reset with hasRun := true, lastT := lastT, ok := true, buf := 0x370017004E#40, sr := 0x370017004E#40,
                     bitIdx := 40#6, done := true }

/-- The parameters with every duration 1 and one timeout. -/
def small (timeout : Nat) : Params :=
  { cacheEn := true, strategy := .A, tIdle := 1, tStart := 1, tRelease := 1, tTimeout := timeout, threshold := 0,
    tMin := 3, cntW := 2 }

/-- The outcome is a next state with `f`. -/
def nextWith (f : State → Bool) : Host.Outcome State Fault Refusal → Bool
  | .next t => f t
  | .fault _ => false
  | .refused _ => false

/-- The outcome is the fault `f`. -/
def faultsWith (f : Fault) : Host.Outcome State Fault Refusal → Bool
  | .next _ => false
  | .fault g => f == g
  | .refused _ => false

/-- The row is the one selected, and the step's next registers satisfy `f`. -/
def stepsAs (i : Instr) (s : State) (f : Block → Bool) : Bool := s.selected == i && nextWith (fun t => f t.block) (step s)

/-! ## Well-formed parameters: each constraint of 00_scope.md R7 refuses an ill-formed setting -/

theorem test_common_params_wf : Params.common.wf = true := by decide
theorem test_refuses_tIdle_zero : ({ Params.common with tIdle := 0 } : Params).wf = false := by decide
theorem test_refuses_tStart_zero : ({ Params.common with tStart := 0 } : Params).wf = false := by decide
theorem test_refuses_tRelease_zero : ({ Params.common with tRelease := 0 } : Params).wf = false := by decide
theorem test_refuses_tTimeout_zero : ({ Params.common with tTimeout := 0 } : Params).wf = false := by decide
theorem test_refuses_tMin_zero : ({ Params.common with tMin := 0 } : Params).wf = false := by decide
theorem test_refuses_tMin_wide : ({ Params.common with tMin := 2 ^ 32 } : Params).wf = false := by decide
theorem test_refuses_tIdle_wide : ({ Params.common with tIdle := 33 } : Params).wf = false := by decide
theorem test_refuses_tStart_wide : ({ Params.common with tStart := 33 } : Params).wf = false := by decide
theorem test_refuses_tRelease_wide : ({ Params.common with tRelease := 33 } : Params).wf = false := by decide
theorem test_refuses_tTimeout_wide : ({ Params.common with tTimeout := 33 } : Params).wf = false := by decide
theorem test_refuses_threshold_wide : ({ Params.common with threshold := 32 } : Params).wf = false := by decide

/-! ## Well-formed rows: a row whose condition fails is refused -/

theorem test_refuses_reqAcquire_with_cache : Instr.wf ⟨true, .A, false⟩ .reqAcquire = false := by decide
theorem test_refuses_hit_without_cache : Instr.wf ⟨false, .A, true⟩ .reqSampleHit = false := by decide
theorem test_refuses_hit_when_stale : Instr.wf ⟨true, .A, false⟩ .reqSampleHit = false := by decide
theorem test_refuses_miss_without_cache : Instr.wf ⟨false, .A, false⟩ .reqSampleMiss = false := by decide
theorem test_refuses_miss_when_fresh : Instr.wf ⟨true, .A, true⟩ .reqSampleMiss = false := by decide
theorem test_refuses_bitHighA_under_B : Instr.wf ⟨true, .B, false⟩ .bitHighA = false := by decide
theorem test_refuses_bitHighB_under_A : Instr.wf ⟨true, .A, false⟩ .bitHighB = false := by decide

/-! ## Decoding: words written out from 30_encoding.md R74 and R75 -/

/-- 95 §2.1, the eight vectors with `CACHE_EN` = 1 (nothing fresh) and with `CACHE_EN` = 0. -/
theorem test_decode_commands :
    [0b100#3, 0b101#3, 0b110#3, 0b111#3, 0b000#3, 0b001#3, 0b010#3, 0b011#3].map (decodeCommand ⟨true, .A, false⟩) =
        [.rst, .rst, .rst, .rst, .nop, .nop, .reqSampleMiss, .reqIgnored] ∧
      [0b100#3, 0b101#3, 0b110#3, 0b111#3, 0b000#3, 0b001#3, 0b010#3, 0b011#3].map (decodeCommand ⟨false, .A, false⟩) =
        [.rst, .rst, .rst, .rst, .nop, .nop, .reqAcquire, .reqIgnored] := by decide

theorem test_decode_hit : decodeCommand ⟨true, .B, true⟩ 0b010#3 = .reqSampleHit := by decide

/-- R75 and R77 b, the sixteen values. -/
theorem test_decode_states :
    [0b0000#4, 0b0001#4, 0b0010#4, 0b0011#4, 0b0100#4, 0b0101#4, 0b0110#4, 0b0111#4].map (decodeState .A) =
        [.ready, .settle, .start, .release, .respLow, .respHigh, .respEnd, .bitLow] ∧
      [0b1000#4, 0b1001#4, 0b1010#4, 0b1011#4, 0b1100#4, 0b1101#4, 0b1110#4, 0b1111#4].map (decodeState .A) =
        [.bitHighA, .check, .reservedSt10, .reservedSt11, .reservedSt12, .reservedSt13, .reservedSt14, .reservedSt15] ∧
      decodeState .B 0b1000#4 = .bitHighB := by decide

theorem test_decode_rejects_no_byte : decodeBytes tableCtx .cmd [] = .error .noWord := by rfl
theorem test_decode_rejects_two_bytes : decodeBytes tableCtx .ustate [1#8, 0#8] = .error .extraBytes := by rfl
theorem test_decode_rejects_wide_word : decodeBytes tableCtx .cmd [0b1100#8] = .error .bitsAboveWord := by rfl

theorem test_table_words :
    decodeTableWord 3 0b100 = some .rst ∧ decodeTableWord 3 0b011 = some .reqIgnored ∧
      decodeTableWord 4 0b0101 = some .respHigh ∧ decodeTableWord 4 0b1001 = some .check ∧
      decodeTableWord 3 0b1000 = none ∧ decodeTableWord 8 0b10000 = none := by decide

theorem test_fetch_command : (State.reset.withFetchWord 3 0b010).selected = .reqSampleMiss := by decide
theorem test_fetch_state : (State.reset.withFetchWord 4 0b0110).selected = .respEnd := by decide

/-! ## Commands -/

/-- 95 §2.9: "Reset in `BIT_HIGH` with `BITIDX` = 17 gives no `done`, with `BUF` = 0, `OK` = 0, `ERR` = 0, `HAS_RUN` = 0". -/
theorem test_rst_in_bitHigh :
    stepsAs .rst (common1 { readyAt 9#32 with st := St.bitHigh, bitIdx := 17#6, sync1 := false, cnt := 3, lowCnt := 2 } rstIn)
      (fun b => b == { st := 0#4, cnt := 0, lowCnt := 0, bitIdx := 0#6, sr := 0#40, buf := 0#40, ok := false, err := 0#3,
                       done := false, hit := false, sync1 := true, sync2 := true, lastT := 0#32, hasRun := false })
      = true := by decide

/-- R101: in `READY` the common part alone. -/
theorem test_nop_in_ready :
    stepsAs .nop (common1 (readyAt 9#32) (quiet false))
      (fun b => b == { readyAt 9#32 with done := false, sync1 := false }) = true := by decide

/-- R101: elsewhere the state's own rule; 95 §2.3, `SETTLE`, 0 → 1. -/
theorem test_nop_while_busy :
    nextWith (fun t => t.block.cnt == 1 && t.block.st == 1#4) (exec .nop (common1 (blockAt St.settle 0 true) (quiet true)))
      = true := by decide

/-- R102: `ST`, `CNT`, `LOWCNT`, `BITIDX`, `SR`; the cache's registers are not touched. -/
theorem test_reqAcquire :
    stepsAs .reqAcquire (machine { Params.common with cacheEn := false } { readyAt 0#32 with lowCnt := 4 } [reqAt 55#32])
      (fun b => b == { readyAt 0#32 with st := 1#4, cnt := 0, lowCnt := 0, bitIdx := 0#6, sr := 0#40, done := false,
                                         sync1 := true }) = true := by decide

/-- 95 §2.8: `LAST_T` = 100, `now_ms` = 2099, elapsed 1999: hit. -/
theorem test_hit_at_1999 :
    stepsAs .reqSampleHit (common1 { readyAt 100#32 with done := false } (reqAt 2099#32))
      (fun b => b == { readyAt 100#32 with done := true, hit := true }) = true := by decide

/-- 95 §2.8: `LAST_T` = 100, `now_ms` = 2100: "elapsed 2000 is not < 2000". -/
theorem test_miss_at_2000 :
    stepsAs .reqSampleMiss (common1 (readyAt 100#32) (reqAt 2100#32))
      (fun b => b.lastT == 2100#32 && b.st == 1#4 && b.sr == 0#40 && b.bitIdx == 0#6 && b.ok && b.buf == 0x370017004E#40)
      = true := by decide

/-- 95 §2.8: `LAST_T` = 0xFFFFFFF0, `now_ms` = 5: "miss (wrap), `LAST_T` ← 5". -/
theorem test_miss_on_wrap :
    stepsAs .reqSampleMiss (common1 (readyAt 0xFFFFFFF0#32) (reqAt 5#32)) (fun b => b.lastT == 5#32 && b.hasRun) = true := by
  decide

/-- R103: the cycle of `START`, 1 → 2, as if `req` were 0. -/
theorem test_reqIgnored_counts :
    stepsAs .start (common1 (blockAt St.start 1 true) (reqAt 5#32)) (fun b => b.cnt == 2 && b.lastT == 0#32) = true ∧
      nextWith (fun t => t.block.cnt == 2) (exec .reqIgnored (common1 (blockAt St.start 1 true) (reqAt 5#32))) = true := by
  decide

/-- R100: `READY` decodes the request; first request, 95 §2.8 row 2: miss. -/
theorem test_ready_decodes_miss :
    nextWith (fun t => t.block.st == 1#4 && t.block.lastT == 1999#32 && t.block.hasRun)
      (exec .ready (common1 Block.reset (reqAt 1999#32))) = true := by decide

/-! ## Timed phases (95 §2.3) -/

theorem test_settle_third_cycle_leaves :
    stepsAs .settle (common1 (blockAt St.settle 2 true) (quiet true)) (fun b => b.st == 2#4 && b.cnt == 0) = true := by decide

theorem test_settle_one_cycle :
    stepsAs .settle (machine (small 1) (blockAt St.settle 0 true) [quiet true]) (fun b => b.st == 2#4 && b.cnt == 0) = true := by
  decide

theorem test_start_drives_low_and_counts :
    stepsAs .start (common1 (blockAt St.start 2 true) (quiet true)) (fun b => b.st == 2#4 && b.cnt == 3) = true ∧
      padOf 2#4 = some { oe := true, o := false, pu := false } := by decide

theorem test_start_fourth_cycle_leaves :
    stepsAs .start (common1 (blockAt St.start 3 true) (quiet true)) (fun b => b.st == 3#4 && b.cnt == 0) = true := by decide

theorem test_release_second_cycle_leaves :
    stepsAs .release (common1 (blockAt St.release 1 true) (quiet true)) (fun b => b.st == 4#4 && b.cnt == 0) = true ∧
      padOf 3#4 = some { oe := true, o := true, pu := false } := by decide

/-! ## Measuring states (95 §2.4) -/

theorem test_respLow_fails :
    stepsAs .respLow (common1 { blockAt St.respLow 15 true with buf := 0x01#40 } (quiet true))
      (fun b => b.st == 0#4 && b.err == 1#3 && b.done && !b.ok && b.buf == 0#40 && b.cnt == 0) = true := by decide

theorem test_respLow_exits :
    stepsAs .respLow (common1 (blockAt St.respLow 15 false) (quiet true)) (fun b => b.st == 5#4 && b.cnt == 0 && !b.done)
      = true := by decide

theorem test_respHigh_fails :
    stepsAs .respHigh (common1 (blockAt St.respHigh 15 false) (quiet true)) (fun b => b.st == 0#4 && b.err == 2#3) = true := by
  decide

theorem test_respHigh_counts :
    stepsAs .respHigh (common1 (blockAt St.respHigh 3 false) (quiet true)) (fun b => b.st == 5#4 && b.cnt == 4) = true := by
  decide

theorem test_respEnd_counts_to_15 :
    stepsAs .respEnd (common1 (blockAt St.respEnd 14 true) (quiet true)) (fun b => b.st == 6#4 && b.cnt == 15) = true := by
  decide

theorem test_respEnd_fails :
    stepsAs .respEnd (common1 (blockAt St.respEnd 15 true) (quiet true)) (fun b => b.st == 0#4 && b.err == 2#3) = true := by
  decide

/-- "exit reading count 15". -/
theorem test_bitLow_keeps_its_count :
    stepsAs .bitLow (common1 (blockAt St.bitLow 15 true) (quiet true)) (fun b => b.st == 8#4 && b.lowCnt == 15 && b.cnt == 0)
      = true := by decide

/-- "any, 0, = `L`, with `T_TIMEOUT` = 1: `Fail(code)`". -/
theorem test_bitLow_timeout_one :
    stepsAs .bitLow (machine (small 1) (blockAt St.bitLow 0 false) [quiet true]) (fun b => b.st == 0#4 && b.err == 3#3)
      = true := by decide

/-- 95 §2.5, strategy A: `LOWCNT`, data count, bit; shifted in at bit 0. -/
theorem test_bitHighA_decides :
    ([(4, 2, false), (4, 4, false), (4, 5, true), (4, 6, true), (0, 0, false), (0, 1, true), (15, 15, false), (14, 15, true)] :
        List (Nat × Nat × Bool)).all
      (fun r => stepsAs .bitHighA (common1 { blockAt St.bitHigh r.2.1 false with lowCnt := r.1, sr := 0b10#40 } (quiet true))
        fun b => b.sr == (if r.2.2 then 0b101#40 else 0b100#40) && b.bitIdx == 1#6 && b.st == 7#4 && b.cnt == 0) = true := by
  decide

/-- 95 §2.6: `BITIDX` 39 goes to `CHECK` with 40, 38 to `BIT_LOW` with 39. -/
theorem test_bitHighA_last_bit :
    stepsAs .bitHighA (common1 { blockAt St.bitHigh 0 false with bitIdx := 39#6 } (quiet true))
        (fun b => b.st == 9#4 && b.bitIdx == 40#6) = true ∧
      stepsAs .bitHighA (common1 { blockAt St.bitHigh 0 false with bitIdx := 38#6 } (quiet true))
        (fun b => b.st == 7#4 && b.bitIdx == 39#6) = true := by decide

/-- 95 §2.5, strategy B: `THRESHOLD`, data count, bit. -/
theorem test_bitHighB_decides :
    ([(4, 2, false), (4, 4, false), (4, 5, true), (4, 15, true), (0, 0, false), (0, 1, true), (15, 15, false)] :
        List (Nat × Nat × Bool)).all
      (fun r =>
        stepsAs .bitHighB
          (machine { Params.common with strategy := .B, threshold := r.1 } (blockAt St.bitHigh r.2.1 false) [quiet true])
          fun b => b.sr == (if r.2.2 then 1#40 else 0#40) && b.bitIdx == 1#6 && b.st == 7#4) = true := by decide

/-- 95 §2.4: `BIT_HIGH` fails with code 3. -/
theorem test_bitHighB_fails :
    stepsAs .bitHighB (machine { Params.common with strategy := .B } (blockAt St.bitHigh 15 true) [quiet true])
      (fun b => b.st == 0#4 && b.err == 3#3 && b.sr == 0#40) = true := by decide

/-! ## Completion (95 §2.7) -/

theorem test_check_commits :
    ([0x370017004E#40, 0xFFFFFFFFFC#40, 0x0000000000#40, 0x010203040A#40, 0x028C81909F#40] : List Frame).all
      (fun v => stepsAs .check (common1 { blockAt St.check 0 true with sr := v, err := 4#3 } (quiet true))
        fun b => b.buf == v && b.ok && b.err == 0#3 && b.done && b.st == 0#4) = true := by decide

theorem test_check_rejects :
    ([0x370017004D#40, 0x360017004E#40, 0xFFFFFFFFFF#40] : List Frame).all
      (fun v => stepsAs .check (common1 { blockAt St.check 0 true with sr := v, buf := 1#40, ok := true } (quiet true))
        fun b => b.buf == 0#40 && !b.ok && b.err == 4#3 && b.done && b.st == 0#4 && b.sr == v) = true := by decide

/-! ## Unused states (R77 b) -/

theorem test_reserved_states_fault :
    ([10#4, 11#4, 12#4, 13#4, 14#4, 15#4] : List StateCode).all
      (fun v => faultsWith (.reservedState v) (step (common1 (blockAt v 0 true) (quiet true)))) = true := by decide

/-- R240: a reset overrides them. -/
theorem test_rst_out_of_reserved :
    stepsAs .rst (common1 (blockAt 15#4 0 true) rstIn) (fun b => b == Block.reset) = true := by decide

/-! ## The stimulus notation (30_encoding.md R79, R80) -/

/-- R79: the wired-AND. -/
theorem test_line_level :
    lineLevel Pad.released false true = true ∧ lineLevel Pad.released true true = false ∧
      lineLevel Pad.driveLow false true = false ∧ lineLevel Pad.driveHigh false false = true := by decide

/-- R80 on the byte 0xA0: the most significant bit first. -/
theorem test_byte_pulses :
    bytePulses 5 3 7 0xA0#8 =
      [⟨true, 5⟩, ⟨false, 7⟩, ⟨true, 5⟩, ⟨false, 3⟩, ⟨true, 5⟩, ⟨false, 7⟩, ⟨true, 5⟩, ⟨false, 3⟩, ⟨true, 5⟩, ⟨false, 3⟩,
        ⟨true, 5⟩, ⟨false, 3⟩, ⟨true, 5⟩, ⟨false, 3⟩, ⟨true, 5⟩, ⟨false, 3⟩] := by decide

/-! ## Witnesses: states that meet the hypotheses of the obligations -/

/-- The outcome's state, where it is one. -/
def stateOf : Host.Outcome State Fault Refusal → Option State
  | .next t => some t
  | .fault _ => none
  | .refused _ => none

theorem eq_next_of_stateOf {o : Host.Outcome State Fault Refusal} {t : State} (h : stateOf o = some t) : o = .next t := by
  cases o <;> simp_all [stateOf]

/-- What a Bool says of an outcome holds of its state. -/
theorem holds_of_nextWith {f : State → Bool} {o : Host.Outcome State Fault Refusal} {t : State}
    (h : nextWith f o = true) (ho : o = .next t) : f t = true := by subst ho; exact h

theorem exists_of_nextWith {f : State → Bool} {o : Host.Outcome State Fault Refusal} (h : nextWith f o = true) :
    ∃ t, o = .next t ∧ f t = true := by
  cases o with
  | next t => exact ⟨t, rfl, h⟩
  | fault _ => cases h
  | refused _ => cases h

/-! ### Reset and encodings -/

/-- `ResetGivesEveryRegisterItsResetValue`: `rst` = 1 in the middle of a frame. -/
theorem witness_reset : (common1 (blockAt St.bitHigh 3 true) rstIn).inputs.rst = true := rfl

/-- `ResetHeldKeepsTheResetState`: three cycles of reset, then a request, with the cache and without. -/
theorem witness_reset_held (c : Bool) :
    let s := machine { Params.common with cacheEn := c } (blockAt St.bitHigh 3 true) [rstIn, rstIn, rstIn, reqAt 5#32]
    0 < 3 ∧ (∀ j, j < 3 → (s.inputAt j).rst = true) ∧
      nextWith (fun t => !t.inputs.rst && t.inputs.req && t.params.cacheEn == c) (run 3 s) = true := by
  cases c <;> decide

/-- `CommandVectorSelectsOneCommand`: the three selections of `010`. -/
theorem witness_command_selections :
    (⟨false, .A, false⟩ : SelectCtx).cacheEn = false ∧
      ((⟨true, .A, true⟩ : SelectCtx).cacheEn = true ∧ (⟨true, .A, true⟩ : SelectCtx).fresh = true) ∧
      (⟨true, .A, false⟩ : SelectCtx).cacheEn = true ∧ (⟨true, .A, false⟩ : SelectCtx).fresh = false := by decide

/-- `StateCodeSelectsItsMicroOperation`, `StepRunsTheSelectedRow`, `CommandAndStateNameTheSameCycle`: a cycle without reset in
`READY` and one outside it, each answering a next state. -/
theorem witness_cycles_without_reset :
    ((common1 Block.reset (quiet true)).inputs.rst = false ∧ (common1 Block.reset (quiet true)).block.st = St.ready ∧
        nextWith (fun _ => true) (step (common1 Block.reset (quiet true))) = true) ∧
      (common1 (blockAt St.check 0 true) (reqAt 1#32)).inputs.rst = false ∧
      (common1 (blockAt St.check 0 true) (reqAt 1#32)).block.st ≠ 0#4 ∧
      nextWith (fun t => t.block.done && t.block.st == 0#4) (step (common1 (blockAt St.check 0 true) (reqAt 1#32))) = true := by
  decide

/-- `EncodedRowDecodesToItself`: for every row a selection under which its condition holds. -/
theorem witness_row_conditions (i : Instr) :
    i.wf ⟨true, .A, true⟩ = true ∨ i.wf ⟨true, .B, false⟩ = true ∨ i.wf ⟨false, .A, false⟩ = true := by cases i <;> decide

/-- `DecodedBytesAreTheRowsWord`: bytes that decode, the two rows with don't-care bits among them. -/
theorem witness_decoded_bytes :
    decodeBytes tableCtx .cmd [0b001#8] = .ok .nop ∧ decodeBytes tableCtx .cmd [0b111#8] = .ok .rst ∧
      decodeBytes tableCtx .ustate [0b1000#8] = .ok .bitHighA := ⟨rfl, rfl, rfl⟩

/-- `StepKeepsTheParameters`: an instruction that answers a next state. -/
theorem witness_exec_next : nextWith (fun _ => true) (exec .nop State.reset) = true := by rfl

/-! ### The invariant -/

/-- The invariant holds of states in the middle of a transaction, one in each phase. -/
theorem witness_inv_settle : Inv (common1 (blockAt St.settle 2 true) (quiet true)) := by constructor <;> decide
theorem witness_inv_start : Inv (common1 (blockAt St.start 3 true) (quiet true)) := by constructor <;> decide
theorem witness_inv_release : Inv (common1 (blockAt St.release 1 true) (quiet true)) := by constructor <;> decide
theorem witness_inv_respLow : Inv (common1 (blockAt St.respLow 15 true) (quiet true)) := by constructor <;> decide
theorem witness_inv_respHigh : Inv (common1 (blockAt St.respHigh 15 false) (quiet true)) := by constructor <;> decide
theorem witness_inv_respEnd : Inv (common1 (blockAt St.respEnd 15 true) (quiet true)) := by constructor <;> decide
theorem witness_inv_bitLow : Inv (common1 (blockAt St.bitLow 15 false) (quiet true)) := by constructor <;> decide
theorem witness_inv_bitHigh : Inv (common1 (blockAt St.bitHigh 0 false) (quiet true)) := by constructor <;> decide
theorem witness_inv_check : Inv (common1 (blockAt St.check 0 true) (quiet true)) := by constructor <;> decide
theorem witness_inv_ready : Inv (common1 (readyAt 100#32) (reqAt 2099#32)) := by constructor <;> decide

/-- The same under strategy `B`. -/
theorem witness_inv_bitHighB :
    Inv (machine { Params.common with strategy := .B } (blockAt St.bitHigh 5 false) [quiet true]) := by
  constructor <;> decide

/-- `StepAlwaysAnswersUnderTheInvariant`, `StepKeepsTheInvariant`: a state of a frame being captured, and its step. -/
theorem witness_invariant_step :
    Inv (common1 (blockAt St.bitHigh 0 false) (quiet true)) ∧
      nextWith (fun t => t.block.bitIdx == 1#6) (step (common1 (blockAt St.bitHigh 0 false) (quiet true))) = true :=
  ⟨witness_inv_bitHigh, by decide⟩

/-- `ResetEstablishesTheInvariant`: a reset out of a state that does not meet the invariant. -/
theorem witness_reset_step :
    (common1 (blockAt 15#4 0 true) rstIn).params.wf = true ∧ (common1 (blockAt 15#4 0 true) rstIn).inputs.rst = true ∧
      nextWith (fun _ => true) (step (common1 (blockAt 15#4 0 true) rstIn)) = true := by decide

/-! ### Commands and the cache -/

/-- `NopIsTheCommonPart`, `ReadyDecodesTheCommand`: `READY` with no request, and a busy state with none. -/
theorem witness_nop :
    inState (common1 (readyAt 9#32) (quiet false)) St.ready ∧ (common1 (readyAt 9#32) (quiet false)).inputs.req = false ∧
      (common1 (blockAt St.start 1 true) (quiet true)).inputs.rst = false ∧
      (common1 (blockAt St.start 1 true) (quiet true)).inputs.req = false ∧
      (common1 (blockAt St.start 1 true) (quiet true)).block.st ≠ St.ready :=
  ⟨⟨rfl, rfl, rfl⟩, rfl, rfl, rfl, by decide⟩

/-- `AcquireStartsATransaction`, `ReadyDecodesTheCommand`: a request with no cache. -/
theorem witness_acquire :
    requested (machine { Params.common with cacheEn := false } Block.reset [reqAt 5#32]) ∧
      (machine { Params.common with cacheEn := false } Block.reset [reqAt 5#32]).params.cacheEn = false :=
  ⟨⟨⟨rfl, rfl, rfl⟩, rfl⟩, rfl⟩

/-- `RequestWhileBusyIsIgnored`: a request in `START`, scheduled, with no reserved value. -/
theorem witness_ignored :
    (common1 (blockAt St.start 1 true) (reqAt 5#32)).inputs.rst = false ∧
      (common1 (blockAt St.start 1 true) (reqAt 5#32)).inputs.req = true ∧
      (common1 (blockAt St.start 1 true) (reqAt 5#32)).block.st ≠ St.ready ∧
      (common1 (blockAt St.start 1 true) (reqAt 5#32)).pending = reqAt 5#32 :: [] ∧
      (common1 (blockAt St.start 1 true) (reqAt 5#32)).block.unreserved ∧
      St.reserved (common1 (blockAt St.start 1 true) (reqAt 5#32)).block.st = false := by decide

/-- `FreshMeansLessThanTMinElapsed`, `FreshRequestIsAHit`, `ReadyDecodesTheCommand`: the last fresh value (95 §2.8). -/
theorem witness_hit :
    requested (common1 (readyAt 100#32) (reqAt 2099#32)) ∧ (common1 (readyAt 100#32) (reqAt 2099#32)).params.cacheEn = true ∧
      isFresh (common1 (readyAt 100#32) (reqAt 2099#32)) :=
  ⟨⟨⟨rfl, rfl, rfl⟩, rfl⟩, rfl, rfl, by decide, by decide⟩

/-- `StaleRequestIsAMiss`, `ReadyDecodesTheCommand`: the first stale value (95 §2.8). -/
theorem witness_miss :
    requested (common1 (readyAt 100#32) (reqAt 2100#32)) ∧ (common1 (readyAt 100#32) (reqAt 2100#32)).params.cacheEn = true ∧
      ¬ isFresh (common1 (readyAt 100#32) (reqAt 2100#32)) :=
  ⟨⟨⟨rfl, rfl, rfl⟩, rfl⟩, rfl, fun h => absurd h.2.2 (by decide)⟩

/-- `ClockGoingBackForcesAMiss`: one below the stored timestamp. -/
theorem witness_clock_back :
    requested (common1 (readyAt 100#32) (reqAt 99#32)) ∧ (common1 (readyAt 100#32) (reqAt 99#32)).params.cacheEn = true ∧
      (common1 (readyAt 100#32) (reqAt 99#32)).inputs.nowMs.toNat < (common1 (readyAt 100#32) (reqAt 99#32)).block.lastT.toNat :=
  ⟨⟨⟨rfl, rfl, rfl⟩, rfl⟩, rfl, by decide⟩

/-- `CacheStateSetOnlyByResetAndMiss`: one step of each of its three cases. -/
theorem witness_cache_steps :
    nextWith (fun t => t.block.hasRun == false) (step (common1 (readyAt 100#32) rstIn)) = true ∧
      nextWith (fun t => t.block.lastT == 99#32) (step (common1 (readyAt 100#32) (reqAt 99#32))) = true ∧
      nextWith (fun t => t.block.lastT == 100#32) (step (common1 (readyAt 100#32) (reqAt 100#32))) = true := by decide

/-- A miss at time 10 on a line that stays high, then requests at the time `now` in every later cycle. -/
def throttled (now : Stamp) : State :=
  machine (small 1) Block.reset (reqAt 10#32 :: List.replicate 8 (reqAt now))

/-- The hypotheses of the throttle for a request `n` = 4 cycles after the miss's first, the first with `ST` = `READY`. -/
def throttleHolds (now : Stamp) : Bool :=
  (throttled now).selected == .reqSampleMiss &&
    nextWith
      (fun s' =>
        (List.range 4).all (fun k => nextWith (fun v => v.selected != .rst && v.selected != .reqSampleMiss) (run k s')) &&
          nextWith (fun u => !u.inputs.rst && u.inputs.req && u.block.st == St.ready && u.inputs.nowMs == now) (run 4 s'))
      (step (throttled now))

/-- `ThrottleAllowsOneTransactionPerInterval`: `T_MIN` = 3; the requests at 10 and 12 are inside the interval, those at 9 and 13
are second misses. -/
theorem witness_throttle :
    ([9#32, 10#32, 12#32, 13#32] : List Stamp).all throttleHolds = true ∧
      ([10#32, 12#32] : List Stamp).all (fun now =>
        nextWith (fun u => u.selected == .reqSampleHit) (run 5 (throttled now))) = true ∧
      ([9#32, 13#32] : List Stamp).all (fun now =>
        nextWith (fun u => u.selected == .reqSampleMiss) (run 5 (throttled now))) = true := by decide +kernel

/-- The hypotheses of the throttle as its statement has them. -/
theorem witness_throttle_hypotheses :
    ∃ s' u : State, (throttled 12#32).selected = .reqSampleMiss ∧ step (throttled 12#32) = .next s' ∧ run 4 s' = .next u ∧
      (∀ k v, k < 4 → run k s' = .next v → v.selected ≠ .rst ∧ v.selected ≠ .reqSampleMiss) ∧
      u.inputs.rst = false ∧ u.inputs.req = true ∧ u.block.st = St.ready := by
  have h : throttleHolds 12#32 = true := by decide +kernel
  simp only [throttleHolds, Bool.and_eq_true, beq_iff_eq] at h
  obtain ⟨s', hs, h'⟩ := exists_of_nextWith h.2
  simp only [Bool.and_eq_true, List.all_eq_true, List.mem_range] at h'
  obtain ⟨u, hu, hu'⟩ := exists_of_nextWith h'.2
  simp only [Bool.and_eq_true, Bool.not_eq_true', beq_iff_eq] at hu'
  refine ⟨s', u, h.1, hs, hu, fun k v hk hv => ?_, hu'.1.1.1, hu'.1.1.2, hu'.1.2⟩
  simpa using holds_of_nextWith (h'.1 k hk) hv

/-! ### Handshake and capture -/

/-- `TimedPhaseCountsThenLeaves`, `ResponseWaitsMeasureTheLine`, `BitLowMeasuresTheSyncPulse`,
`StrategyADecidesByComparison`, `StrategyBDecidesByThreshold`: with the invariants above, the states and no reset. -/
theorem witness_phase_states :
    (List.all
        [(St.settle, 2), (St.start, 3), (St.release, 1), (St.respLow, 15), (St.respHigh, 15), (St.respEnd, 15), (St.bitLow, 15),
          (St.bitHigh, 0)]
        fun r => (common1 (blockAt r.1 r.2 true) (quiet true)).block.st == r.1 &&
          !(common1 (blockAt r.1 r.2 true) (quiet true)).inputs.rst) = true ∧
      Params.common.strategy = .A ∧ ({ Params.common with strategy := .B } : Params).strategy = .B := by decide

/-- `TimedPhasesLastExactlyTheirParameter`: each phase from its first cycle, at the longest duration (95 §2.3). -/
theorem witness_timed_phases :
    (List.all [(St.settle, 3), (St.start, 4), (St.release, 2)] fun r =>
        (machine Params.common (blockAt r.1 0 true) (List.replicate 4 (quiet true))).block.st == r.1) = true ∧
      (∀ st, (machine Params.common (blockAt st 0 true) (List.replicate 4 (quiet true))).noReset 4) ∧
      Params.common.wf = true ∧ (blockAt St.settle 0 true).unreserved ∧ (blockAt St.start 0 true).unreserved ∧
      (blockAt St.release 0 true).unreserved := by
  refine ⟨by decide, fun st k hk => ?_, by decide, rfl, rfl, rfl⟩
  obtain rfl | rfl | rfl | rfl : k = 0 ∨ k = 1 ∨ k = 2 ∨ k = 3 := by omega
  all_goals rfl

/-- Counts that spell the frame `0x37 0x00 0x17 0x00 b4` under strategy `A` with `T_TIMEOUT` = 2. -/
def frameCounts (b4 : BitVec 8) : List (Nat × Nat) :=
  ([0x37#8, 0x00#8, 0x17#8, 0x00#8, b4] : List (BitVec 8)).flatMap fun b =>
    (List.range 8).map fun j => (0, if b.getLsbD (7 - j) then 1 else 0)

/-- A machine at the first cycle of `BIT_LOW` whose line carries that frame. -/
def frameMachine (b4 : BitVec 8) : State :=
  machine (small 2)
    { blockAt St.bitLow 0 ((frameSamples (frameCounts b4)).getD 0 true) with
      sync1 := (frameSamples (frameCounts b4)).getD 1 true }
    (((frameSamples (frameCounts b4)).drop 2 ++ [true, true, true]).map quiet)

/-- `FrameIsCapturedInWireOrder`: its hypotheses for a frame with the right checksum byte and one with a wrong one. -/
theorem witness_frame (b4 : BitVec 8) (h : b4 = 0x4E#8 ∨ b4 = 0x4D#8) :
    Inv (frameMachine b4) ∧ (frameMachine b4).block.st = St.bitLow ∧ (frameMachine b4).block.bitIdx = 0#6 ∧
      (frameMachine b4).block.cnt = 0 ∧ (frameCounts b4).length = 40 ∧
      (∀ c ∈ frameCounts b4, c.1 < (frameMachine b4).params.tTimeout ∧ c.2 < (frameMachine b4).params.tTimeout) ∧
      (frameMachine b4).noReset ((frameSamples (frameCounts b4)).length + 1) ∧
      ∀ n, n < (frameSamples (frameCounts b4)).length →
        (frameSamples (frameCounts b4))[n]? = some ((frameMachine b4).sampleAt n) := by
  refine ⟨by rcases h with rfl | rfl <;> constructor <;> decide +kernel, rfl, rfl, rfl, by rcases h with rfl | rfl <;> rfl, ?_⟩
  unfold State.noReset
  rcases h with rfl | rfl <;> decide +kernel

/-- The value those counts spell, and what 95 §2.7 says `CHECK` makes of it. -/
theorem test_frame_value :
    frameValue (small 2) (frameCounts 0x4E#8) = 0x370017004E ∧ frameValue (small 2) (frameCounts 0x4D#8) = 0x370017004D := by
  decide +kernel

/-! ### Completion -/

/-- `CheckVerifiesAndCommits`: a frame that passes and one that does not (95 §2.7). -/
theorem witness_check :
    inState (common1 { blockAt St.check 0 true with sr := 0x370017004E#40 } (quiet true)) St.check ∧
      sumMatches 0x370017004E#40 ∧
      inState (common1 { blockAt St.check 0 true with sr := 0x370017004D#40 } (quiet true)) St.check ∧
      ¬ sumMatches 0x370017004D#40 := by
  unfold sumMatches
  exact ⟨⟨rfl, rfl, rfl⟩, by decide, ⟨rfl, rfl, rfl⟩, by decide⟩

/-- `FailuresAreExactlyTheFourCauses`: each cause, in each of its states, with no reset and no reserved value. -/
theorem witness_failures :
    causes (common1 (blockAt St.respLow 15 true) (quiet true)) .noStartLow ∧
      causes (common1 (blockAt St.respHigh 15 false) (quiet true)) .noStartHigh ∧
      causes (common1 (blockAt St.respEnd 15 true) (quiet true)) .noStartHigh ∧
      causes (common1 (blockAt St.bitLow 15 false) (quiet true)) .bitTimeout ∧
      causes (common1 (blockAt St.bitHigh 15 true) (quiet true)) .bitTimeout ∧
      causes (common1 { blockAt St.check 0 true with sr := 1#40 } (quiet true)) .checksum ∧
      (common1 (blockAt St.respLow 15 true) (quiet true)).inputs.rst = false ∧
      (common1 (blockAt St.respLow 15 true) (quiet true)).block.unreserved := by
  unfold causes sumMatches
  exact ⟨⟨rfl, rfl, rfl⟩, .inl ⟨rfl, rfl, rfl⟩, .inr ⟨rfl, rfl, rfl⟩, .inl ⟨rfl, rfl, rfl⟩, .inr ⟨rfl, rfl, rfl⟩,
    ⟨rfl, by decide⟩, rfl, rfl⟩

/-- `FailuresAreExactlyTheFourCauses`, `ResultRegistersChangeTogether`: a failing step, a hit, a success, and a step that is no
completion event. -/
theorem witness_completion_steps :
    nextWith (fun t => t.block.done && !t.block.hit && !t.block.ok) (step (common1 (blockAt St.respLow 15 true) (quiet true))) = true ∧
      nextWith (fun t => t.block.done && t.block.hit) (step (common1 (readyAt 100#32) (reqAt 2099#32))) = true ∧
      nextWith (fun t => t.block.done && t.block.ok) (step (common1 (blockAt St.check 0 true) (quiet true))) = true ∧
      nextWith (fun t => !t.block.done) (step (common1 (blockAt St.settle 0 true) (quiet true))) = true := by decide

/-- `ResultsHoldUntilTheNextCompletion`: two cycles of `SETTLE` with results standing. -/
theorem witness_results_hold :
    ∃ t, (machine Params.common { readyAt 9#32 with st := St.settle } [quiet true, quiet true]).noReset 2 ∧
      run 2 (machine Params.common { readyAt 9#32 with st := St.settle } [quiet true, quiet true]) = .next t ∧
      ∀ k u, 0 < k → k ≤ 2 →
        run k (machine Params.common { readyAt 9#32 with st := St.settle } [quiet true, quiet true]) = .next u →
        u.block.done = false := by
  refine ⟨_, by unfold State.noReset; decide, rfl, fun k u h0 h2 hu => ?_⟩
  have h : nextWith (fun t => !t.block.done)
      (run k (machine Params.common { readyAt 9#32 with st := St.settle } [quiet true, quiet true])) = true := by
    obtain rfl | rfl : k = 1 ∨ k = 2 := by omega
    · decide
    · decide
  simpa using holds_of_nextWith h hu

/-- A request in `READY`, then `level` on the line for the whole bound, with no reset. -/
def boundMachine (level : Bool) : State :=
  machine (small 1) Block.reset ({ reqAt 5#32 with dqIn := level } :: List.replicate 100 (quiet level))

/-- `EveryTransactionCompletesWithinTheBound`, `ConstantLineIsReported`: the bound is 88, the line high or low throughout. -/
theorem witness_bound (level : Bool) :
    Inv (boundMachine level) ∧ (boundMachine level).accepts = true ∧
      (boundMachine level).noReset (transactionBound (boundMachine level).params) ∧
      ∀ k, k < transactionBound (boundMachine level).params → ((boundMachine level).inputAt k).dqIn = level := by
  unfold State.noReset
  cases level
  · exact ⟨by constructor <;> decide, by decide +kernel⟩
  · exact ⟨by constructor <;> decide, by decide +kernel⟩

/-- `ChecksumCatchesEverySingleBitFlip`: a frame that passes, and the lowest and highest bit of bytes 0 to 3. -/
theorem witness_flip :
    checksumOk 0x370017004E#40 = true ∧ 8 ≤ (8 : Fin 40).val ∧ 8 ≤ (39 : Fin 40).val ∧
      checksumOk (0x370017004E#40 ^^^ (1#40 <<< 8)) = false ∧ checksumOk (0x370017004E#40 ^^^ (1#40 <<< 39)) = false := by
  decide

/-! ### Outputs, synchronizer, inputs, reserved values -/

/-- `OutputsFollowTheTable`: the row of `START` and a state in it. -/
theorem witness_outputs :
    (St.start, true, true, false, false, false, false) ∈ outputRows ∧
      (common1 (blockAt St.start 0 true) (quiet true)).block.st = St.start := by decide

/-- `ExclusiveWindowIsAlwaysReleased`: a step into the window, one out of it, and one with a completion event. -/
theorem witness_window :
    (Inv (common1 (blockAt St.respEnd 15 false) (quiet true)) ∧
        nextWith (fun t => t.block.crit t.params) (step (common1 (blockAt St.respEnd 15 false) (quiet true))) = true) ∧
      Inv (common1 (blockAt St.bitLow 15 false) (quiet true)) ∧
      (common1 (blockAt St.bitLow 15 false) (quiet true)).block.crit Params.common = true ∧
      nextWith (fun t => !t.block.crit t.params && t.block.done) (step (common1 (blockAt St.bitLow 15 false) (quiet true)))
        = true :=
  ⟨⟨by constructor <;> decide, by decide⟩, witness_inv_bitLow, by decide, by decide⟩

/-- `SampleIsTheLineTwoCyclesBack`: three cycles without reset. -/
theorem witness_sample :
    ∃ t, (machine Params.common Block.reset [quiet false, quiet true, quiet false]).noReset 3 ∧
      run 3 (machine Params.common Block.reset [quiet false, quiet true, quiet false]) = .next t :=
  ⟨_, by unfold State.noReset; decide, rfl⟩

/-- `OnlyTheSampleDecides`: a step with its inputs scheduled. -/
theorem witness_sample_decides :
    ∃ t, (common1 (blockAt St.bitLow 3 true) (quiet false)).pending = quiet false :: [] ∧
      step (common1 (blockAt St.bitLow 3 true) (quiet false)) = .next t := ⟨_, rfl, rfl⟩

/-- `PlatformClockReadOnlyWhenDeciding`: each of the four grounds. -/
theorem witness_clock_not_read :
    rstIn.rst = true ∧ (quiet true).req = false ∧ (small 1).cacheEn = true ∧
      ({ Params.common with cacheEn := false } : Params).cacheEn = false ∧
      (common1 (blockAt St.bitLow 3 true) (reqAt 5#32)).pending = reqAt 5#32 :: [] ∧
      (common1 (blockAt St.bitLow 3 true) (reqAt 5#32)).block.st ≠ St.ready := by decide

/-- `ReservedValuesFault`: a step under the invariant out of the last bit, which leaves the largest `BITIDX` in use (95 §2.6). -/
theorem witness_last_bitIdx :
    Inv (common1 { blockAt St.bitHigh 0 false with bitIdx := 39#6 } (quiet true)) ∧
      nextWith (fun t => t.block.bitIdx == 40#6) (step (common1 { blockAt St.bitHigh 0 false with bitIdx := 39#6 } (quiet true)))
        = true := ⟨by constructor <;> decide, by decide⟩

/-- `ReservedValuesFault`: the first value of each reserved range, with no reset. -/
theorem witness_reserved :
    9 < (10#4).toNat ∧ faultsWith (.reservedState 10#4) (step (common1 (blockAt 10#4 0 true) (quiet true))) = true ∧
      4 < (5#3).toNat ∧
      faultsWith (.reservedErr 5#3) (step (common1 { blockAt St.check 0 true with err := 5#3 } (quiet true))) = true ∧
      40 < (41#6).toNat ∧
      faultsWith (.reservedBitIdx 41#6) (step (common1 { blockAt St.ready 0 true with bitIdx := 41#6 } (quiet true))) = true := by
  decide

end Sys2Proof.Tests
end

/-! What a row that answers a next state does to the state around the registers (00_scope.md R6, R7). -/

namespace Sys2Proof.Machine

variable {s t : State} {i : Instr}

/-- A cycle that answers found no reserved value, and moved the synchronizer (R100). -/
theorem tick_next_latches {op : Params → Inputs → Block → Block} (h : s.tick op = .next t) :
    s.block.unreserved ∧ ∃ c : Block, t = s.advance (c.latch s.inputs.dqIn) :=
  have ⟨hu, ht⟩ := (tick_next_iff op).1 h
  ⟨hu, _, ht⟩

/-- The same for the row of `ST`: each used code is one such cycle, and an unused code answers no state (R77 b). -/
theorem runState_next_latches (h : runState s = .next t) :
    s.block.unreserved ∧ ∃ c : Block, t = s.advance (c.latch s.inputs.dqIn) := by
  unfold runState at h
  split at h
  case h_9 => split at h <;> exact tick_next_latches h
  case h_11 => cases h
  all_goals exact tick_next_latches h

/-- All a row that answers a next state can do: reset the registers, or run one cycle with the common part. -/
theorem exec_next_cases (h : exec i s = .next t) :
    (i = .rst ∧ t = s.advance Block.reset) ∨
      (s.block.unreserved ∧ ∃ c : Block, t = s.advance (c.latch s.inputs.dqIn)) := by
  cases i
  case rst =>
    rw [exec_rst] at h
    cases h
    exact .inl ⟨rfl, rfl⟩
  case nop => exact .inr (runState_next_latches h)
  case reqIgnored => exact .inr (runState_next_latches h)
  case reservedSt10 | reservedSt11 | reservedSt12 | reservedSt13 | reservedSt14 | reservedSt15 => cases h
  all_goals
    simp only [exec_reqAcquire, exec_reqSampleHit, exec_reqSampleMiss, exec_ready, exec_settle, exec_start, exec_release,
      exec_respLow, exec_respHigh, exec_respEnd, exec_bitLow, exec_bitHighA, exec_bitHighB, exec_check] at h
    exact .inr (tick_next_latches h)

/-- Whatever the row, only the registers change beside the used-up inputs and the cycle number (logs 1 and 2). -/
theorem exec_next_advances (h : exec i s = .next t) : ∃ b : Block, t = s.advance b := by
  rcases exec_next_cases h with ⟨_, ht⟩ | ⟨_, c, ht⟩
  · exact ⟨_, ht⟩
  · exact ⟨_, ht⟩

/-- Settles O10: every answer of a row is an `advance` of the state. -/
theorem stepKeepsTheParameters : Obligations.StepKeepsTheParameters := by
  intro i s t h
  obtain ⟨b, rfl⟩ := exec_next_advances h
  exact ⟨State.advance_params b s, State.advance_pending b s, State.advance_cycle b s⟩

end Sys2Proof.Machine

/-! The invariant of 10_state.md R38: reset establishes it, and each register transfer keeps it. -/

namespace Sys2Proof.Machine

variable {s t : State} {c : Block}

/-- The registers as reset leaves them meet the invariant under any parameters of R7 (R240). -/
theorem inv_of_block_reset (hw : s.params.wf = true) (hb : s.block = Block.reset) : Inv s := by
  obtain ⟨params, block, pending, cycle⟩ := s
  obtain rfl : block = Block.reset := hb
  obtain ⟨hIdle, hStart, hRelease, hTimeout, -⟩ := wf_iff.1 hw
  exact
    { params_wf := hw
      st_used := rfl
      err_used := rfl
      bitIdx_used := rfl
      cnt_fits := Nat.two_pow_pos _
      lowCnt_bounded := hTimeout
      buf_checked := .inl rfl
      ok_success := fun h => nomatch h
      failed_zero := fun _ => rfl
      idle_cnt := fun _ => rfl
      capturing_bits := fun _ => Nat.zero_le _
      check_bits := fun h => absurd h (show ¬ St.ready = St.check by decide)
      handshake_bits := fun _ => rfl
      sr_bits := Nat.two_pow_pos _
      settle_cnt := fun _ => hIdle
      start_cnt := fun _ => hStart
      release_cnt := fun _ => hRelease
      measuring_cnt := fun _ => hTimeout
      done_ready := fun _ => rfl
      hit_cache := fun h => nomatch h
      no_cache := fun _ => ⟨rfl, rfl⟩
      ran_cache := fun _ h => absurd h (show ¬ (Block.reset.busy = true ∨ Block.reset.ok = true) by decide) }

/-- The part of the invariant that speaks of `BITIDX` and `SR`. -/
theorem Inv.bitsInPlace (h : Inv s) : BitsInPlace s.block where
  used := (bitIdx_used_iff _).1 h.bitIdx_used
  capturing := h.capturing_bits
  checking := h.check_bits
  before := h.handshake_bits
  width := h.sr_bits

/-- Whatever the synchronizer latches, a register transfer keeps the invariant. -/
theorem Transfer.inv (h : Transfer s.params s.inputs s.block.clearDone c) (hs : Inv s) (level : Bool) :
    Inv (s.advance (c.latch level)) := by
  obtain ⟨-, -, -, hTimeout, -⟩ := wf_iff.1 hs.params_wf
  obtain ⟨hSettle, hStart, hRelease, hMeasuring⟩ :=
    h.counts hs.params_wf hs.settle_cnt hs.start_cnt hs.release_cnt hs.measuring_cnt
  have hbits : BitsInPlace s.block.clearDone := { hs.bitsInPlace with }
  obtain ⟨hUsed, hCapturing, hChecking, hBefore, hWidth⟩ := h.bitsInPlace hbits
  exact
    { params_wf := hs.params_wf
      st_used := h.st_used
      err_used := h.err_used hs.err_used
      bitIdx_used := (bitIdx_used_iff _).2 hUsed
      cnt_fits := h.cnt_fits hs.cnt_fits
      lowCnt_bounded := h.lowCnt_bounded hTimeout hs.lowCnt_bounded hs.measuring_cnt
      buf_checked := h.buf_checked hs.buf_checked
      ok_success := h.ok_success hs.ok_success
      failed_zero := h.failed_zero hs.failed_zero
      idle_cnt := h.idle_cnt hs.idle_cnt
      capturing_bits := hCapturing
      check_bits := hChecking
      handshake_bits := hBefore
      sr_bits := hWidth
      settle_cnt := hSettle
      start_cnt := hStart
      release_cnt := hRelease
      measuring_cnt := hMeasuring
      done_ready := h.done_ready rfl
      hit_cache := h.hit_cache hs.hit_cache
      no_cache := h.no_cache hs.no_cache
      ran_cache := h.ran_cache hs.ran_cache }

/-- Settles O43: a step is a reset or a register transfer, and both lead to the invariant. -/
theorem stepKeepsTheInvariant : Obligations.StepKeepsTheInvariant := by
  intro s t hs h
  rcases step_transfer h with ⟨-, rfl⟩ | ⟨-, -, c, hc, rfl⟩
  · exact inv_of_block_reset hs.params_wf rfl
  · exact hc.inv hs s.inputs.dqIn

/-- Settles O44: both states have the registers of R240 and parameters that meet R7. -/
theorem resetEstablishesTheInvariant : Obligations.ResetEstablishesTheInvariant := by
  refine ⟨inv_of_block_reset (by decide) rfl, fun s t hw hr h => ?_⟩
  rw [step_of_rst hr] at h
  cases h
  exact inv_of_block_reset hw rfl

end Sys2Proof.Machine

/-! The synchronizer along a run without reset (10_state.md R31). -/

namespace Sys2Proof.Machine

variable {s t : State} {n : Nat}

/-- The cycle before a run without reset has none either. -/
theorem State.noReset.head (h : s.noReset (n + 1)) : s.inputs.rst = false := h 0 n.succ_pos

/-- After one cycle of a run without reset the rest of it has none. -/
theorem State.noReset.tail {b : Block} (h : s.noReset (n + 1)) : (s.advance b).noReset n := by
  intro k hk
  rw [inputAt_advance]
  exact h (k + 1) (Nat.succ_lt_succ hk)

/-- A step without reset moves the synchronizer on by one (R100). -/
theorem step_latches_sync (hr : s.inputs.rst = false) (h : step s = .next t) :
    ∃ c : Block, t = s.advance (c.latch s.inputs.dqIn) ∧ c.sync1 = s.block.sync1 := by
  rcases step_transfer h with ⟨hr', -⟩ | ⟨-, -, c, hc, rfl⟩
  · rw [hr] at hr'
    cases hr'
  · exact ⟨c, rfl, hc.sync1_eq⟩

/-- Once the synchronizer has moved on, the next state's samples are those of this one, one cycle nearer. -/
theorem sampleAt_advance_latch {c : Block} (hc : c.sync1 = s.block.sync1) (n : Nat) :
    (s.advance (c.latch s.inputs.dqIn)).sampleAt n = s.sampleAt (n + 1) := by
  match n with
  | 0 => exact hc
  | 1 => rfl
  | m + 2 => exact congrArg Inputs.dqIn (inputAt_advance m)

/-- A run of `n + 1` cycles that answers is a step that answers and a run of `n`. -/
theorem run_succ_next_iff : run (n + 1) s = .next t ↔ ∃ u, step s = .next u ∧ run n u = .next t := by
  rw [run]
  cases step s <;> simp

/-- Settles O39, by induction on the cycles from the first: each moves the synchronizer and the samples to come by one. -/
theorem sampleIsTheLineTwoCyclesBack : Obligations.SampleIsTheLineTwoCyclesBack := by
  intro s t n
  induction n generalizing s with
  | zero =>
    intro _ h
    cases h
    exact ⟨rfl, rfl⟩
  | succ n ih =>
    intro hn h
    obtain ⟨u, hu, hrun⟩ := run_succ_next_iff.1 h
    obtain ⟨c, rfl, hc⟩ := step_latches_sync hn.head hu
    simpa only [sampleAt_advance_latch hc] using ih _ hn.tail hrun

end Sys2Proof.Machine

/-! The output table of 10_state.md R35. -/

namespace Sys2Proof.Machine

variable {s : State}

/-- Where the pad has a row, the outputs are that row and the registers. -/
theorem outputs_of_padOf {pad : Pad} (h : padOf s.block.st = some pad) :
    s.outputs =
      some { pad := pad, busy := s.block.busy, done := s.block.done, ok := s.block.ok, hit := s.block.hit,
             err := s.block.err, data := s.block.buf, crit := s.block.crit s.params, dbgState := s.block.st,
             dbgBitIdx := s.block.bitIdx } := by
  simp only [State.outputs, h]

/-- The columns of the table, each as a function of `ST`. -/
theorem columns_of_mem_outputRows {st : StateCode} {busy oe o pu critA critB : Bool}
    (h : (st, busy, oe, o, pu, critA, critB) ∈ Claims.outputRows) :
    padOf st = some { oe := oe, o := o, pu := pu } ∧ busy = (st != St.ready) ∧
      critA = (st == St.bitLow || st == St.bitHigh) ∧ critB = false := by
  simp only [Claims.outputRows, List.mem_cons, List.not_mem_nil, or_false, Prod.mk.injEq] at h
  rcases h with h | h | h | h | h | h | h | h | h | h <;> obtain ⟨rfl, rfl, rfl, rfl, rfl, rfl, rfl⟩ := h <;> decide

/-- Settles O37: the row's columns are the pad, `busy` and `crit` of its `ST`, and the other ports copy registers. -/
theorem outputsFollowTheTable : Obligations.OutputsFollowTheTable := by
  intro s st busy oe o pu critA critB hrow hst
  obtain ⟨hpad, hbusy, hcritA, hcritB⟩ := columns_of_mem_outputRows hrow
  subst hst hbusy hcritA hcritB
  rw [outputs_of_padOf hpad, Block.crit, Block.busy]
  cases s.params.strategy <;> rfl

end Sys2Proof.Machine

/-! Bit capture along a run (41_capture.md R132 to R137): forty pulse pairs, sample by sample, and the checksum after them. -/

namespace Sys2Proof.Machine

open Sys2Proof.Claims

variable {s : State} {b c : Block} {p : Params} {i : Inputs} {st : StateCode} {level x : Bool} {code : FailCode}
  {rest : List Bool}

/-! ### The measuring states, one sample at a time -/

/-- In a measuring state the register transfer is its measurement (R130). -/
theorem stateOp_measures (h : MeasureRow st level code) (hs : b.st = st) :
    ∃ exit, stateOp p i b = some (b.measure p level code exit) := by
  cases h <;> exact ⟨_, by simp [stateOp, hs]; rfl⟩

/-- The register transfer of `BIT_LOW` (R133). -/
theorem stateOp_bitLow (hs : b.st = St.bitLow) :
    stateOp p i b = some (b.measure p false .bitTimeout fun b => (b.setLowCnt b.cnt).goto St.bitHigh) := by
  simp [stateOp, hs]

/-- The register transfer of `BIT_HIGH`, under either strategy (R134, R135). -/
theorem stateOp_bitHigh (hs : b.st = St.bitHigh) :
    stateOp p i b = some (b.measure p true .bitTimeout fun b => captureBit (decidedBit p b) b) := by
  cases hp : p.strategy <;> simp [stateOp, decidedBit, hs, hp]

/-- The register transfer of `CHECK` where the checksum holds (R161). -/
theorem stateOp_check_commits (hs : b.st = St.check) (hk : checksumOk b.sr = true) :
    stateOp p i b = some b.commitSuccess := by
  simp [stateOp, hs, hk]

/-- The register transfer of `CHECK` where it does not (R162). -/
theorem stateOp_check_fails (hs : b.st = St.check) (hk : checksumOk b.sr = false) :
    stateOp p i b = some (b.fail .checksum) := by
  simp [stateOp, hs, hk]

/-- A sample at the measured level is counted, short of the timeout (R130). -/
theorem measure_counts (exit : Block → Block) (hw : p.wf = true) (hl : b.sync2 = level) (hd : b.cnt + 1 < p.tTimeout) :
    b.measure p level code exit = { b with cnt := b.cnt + 1 } := by
  obtain ⟨-, -, -, -, -, -, -, -, -, hT, -⟩ := wf_iff.1 hw
  rcases measure_cases (b := b) (p := p) level code exit with ⟨-, he, -⟩ | ⟨-, -, e⟩ | ⟨hx, -⟩
  · omega
  · rw [e, nextCount_of_lt hd hT]
  · exact absurd hl hx

/-- A sample at the other level ends the measurement (R130). -/
theorem measure_exits (exit : Block → Block) (hl : b.sync2 ≠ level) :
    b.measure p level code exit = (exit b).setCnt 0 := by
  simp [Block.measure, Block.sample, hl]

/-- The registers bit capture works on, and the parameters it reads. -/
structure Capture where
  params : Params
  st : StateCode
  cnt : Nat
  lowCnt : Nat
  bitIdx : BitIndex
  sr : Frame

/-- What bit capture sees of a state. -/
def State.capture (s : State) : Capture :=
  { params := s.params, st := s.block.st, cnt := s.block.cnt, lowCnt := s.block.lowCnt, bitIdx := s.block.bitIdx,
    sr := s.block.sr }

/-- The invariant holds, and the coming cycles bring no reset and the samples `l`. -/
structure Reads (s : State) (l : List Bool) : Prop where
  inv : Inv s
  noReset : s.noReset l.length
  samples : ∀ n, n < l.length → l[n]? = some (s.sampleAt n)

theorem Reads.rst (h : Reads s (x :: rest)) : s.inputs.rst = false := State.noReset.head h.noReset

theorem Reads.sample (h : Reads s (x :: rest)) : s.block.sync2 = x :=
  (Option.some.inj (h.samples 0 (Nat.succ_pos _))).symm

/-- A step takes the first sample, and the rest are still to come. -/
theorem Reads.step (h : Reads s (x :: rest)) (hc : stateOp s.params s.inputs s.block.clearDone = some c) :
    step s = .next (s.advance (c.latch s.inputs.dqIn)) ∧ Reads (s.advance (c.latch s.inputs.dqIn)) rest := by
  have hstep := step_of_unreserved h.rst h.inv.unreserved hc
  refine ⟨hstep, stepKeepsTheInvariant _ _ h.inv hstep, State.noReset.tail h.noReset, fun n hn => ?_⟩
  rw [sampleAt_advance_latch (stateOp_transfer hc).sync1_eq]
  exact h.samples (n + 1) (Nat.succ_lt_succ hn)

/-- A sample at the measured level, short of the timeout: `CNT` counts it and all else stays. -/
theorem Reads.count (h : Reads s (level :: rest)) (hm : MeasureRow s.capture.st level code)
    (hd : s.capture.cnt + 1 < s.capture.params.tTimeout) :
    ∃ t, Machine.step s = .next t ∧ Reads t rest ∧ t.capture = { s.capture with cnt := s.capture.cnt + 1 } := by
  obtain ⟨exit, hc⟩ := stateOp_measures (p := s.params) (i := s.inputs) (b := s.block.clearDone) hm rfl
  rw [measure_counts (b := s.block.clearDone) exit h.inv.params_wf h.sample hd] at hc
  obtain ⟨hstep, hrest⟩ := h.step hc
  exact ⟨_, hstep, hrest, rfl⟩

/-- The high sample that ends the sync pulse: its count goes to `LOWCNT` (R133). -/
theorem Reads.endLow (h : Reads s (true :: rest)) (hst : s.capture.st = St.bitLow) :
    ∃ t, Machine.step s = .next t ∧ Reads t rest ∧
      t.capture = { s.capture with st := St.bitHigh, lowCnt := s.capture.cnt, cnt := 0 } := by
  have hc := stateOp_bitLow (p := s.params) (i := s.inputs) (b := s.block.clearDone) hst
  rw [measure_exits (b := s.block.clearDone) _ (by simp [h.sample])] at hc
  obtain ⟨hstep, hrest⟩ := h.step hc
  exact ⟨_, hstep, hrest, rfl⟩

/-- The low sample that ends the data pulse: the bit its count decides is shifted in (R134 to R137). -/
theorem Reads.endHigh (h : Reads s (false :: rest)) (hst : s.capture.st = St.bitHigh) :
    ∃ t, Machine.step s = .next t ∧ Reads t rest ∧
      t.capture =
        { s.capture with
          st := if s.capture.bitIdx = 39#6 then St.check else St.bitLow
          cnt := 0
          bitIdx := s.capture.bitIdx + 1#6
          sr := shiftIn s.capture.sr (bitValue s.capture.params (s.capture.lowCnt, s.capture.cnt)) } := by
  have hc := stateOp_bitHigh (p := s.params) (i := s.inputs) (b := s.block.clearDone) hst
  rw [measure_exits (b := s.block.clearDone) _ (by simp [h.sample])] at hc
  obtain ⟨hstep, hrest⟩ := h.step hc
  exact ⟨_, hstep, hrest, rfl⟩

/-! ### Pulses, bits and frames -/

/-- A pulse of `n` samples at the measured level, short of the timeout, is counted. -/
theorem Reads.pulse {n : Nat} (h : Reads s (List.replicate n level ++ rest)) (hm : MeasureRow s.capture.st level code)
    (hd : s.capture.cnt + n < s.capture.params.tTimeout) :
    ∃ t, run n s = .next t ∧ Reads t rest ∧ t.capture = { s.capture with cnt := s.capture.cnt + n } := by
  induction n generalizing s with
  | zero => exact ⟨s, rfl, h, rfl⟩
  | succ n ih =>
    obtain ⟨u, hu, hrest, hcap⟩ := Reads.count (rest := List.replicate n level ++ rest) h hm (by omega)
    obtain ⟨t, ht, hrest', hcap'⟩ := ih hrest (by rw [hcap]; exact hm) (by rw [hcap, ← Nat.add_right_comm]; exact hd)
    refine ⟨t, (run_succ n hu).trans ht, hrest', ?_⟩
    rw [hcap', hcap]
    simp [Nat.add_assoc, Nat.add_comm 1]

/-- One bit from the first cycle of its sync pulse: both pulses are measured and the bit they spell is shifted in. -/
theorem Reads.bit {lo hi : Nat} (h : Reads s (bitSamples lo hi ++ rest)) (hst : s.capture.st = St.bitLow)
    (hcnt : s.capture.cnt = 0) (hlo : lo < s.capture.params.tTimeout) (hhi : hi < s.capture.params.tTimeout) :
    ∃ t, run (bitSamples lo hi).length s = .next t ∧ Reads t rest ∧
      t.capture =
        { s.capture with
          st := if s.capture.bitIdx = 39#6 then St.check else St.bitLow
          lowCnt := lo
          bitIdx := s.capture.bitIdx + 1#6
          sr := shiftIn s.capture.sr (bitValue s.capture.params (lo, hi)) } := by
  have hsplit : bitSamples lo hi ++ rest =
      List.replicate lo false ++ true :: (List.replicate hi true ++ false :: rest) := by simp [bitSamples]
  have hlen : (bitSamples lo hi).length = lo + (1 + (hi + 1)) := by simp [bitSamples]; omega
  rw [hsplit] at h
  obtain ⟨s₁, hrun₁, h₁, hcap₁⟩ := h.pulse (by rw [hst]; exact .bitLow) (by omega)
  obtain ⟨s₂, hrun₂, h₂, hcap₂⟩ := h₁.endLow (by rw [hcap₁]; exact hst)
  obtain ⟨s₃, hrun₃, h₃, hcap₃⟩ := h₂.pulse (by rw [hcap₂]; exact .bitHigh) (by rw [hcap₂, hcap₁]; simpa using hhi)
  obtain ⟨t, hrun₄, h₄, hcap₄⟩ := h₃.endHigh (by rw [hcap₃, hcap₂])
  refine ⟨t, ?_, h₄, by rw [hcap₄, hcap₃, hcap₂, hcap₁]; simp [hcnt]⟩
  rw [hlen, run_add _ _ hrun₁, Nat.add_comm 1, run_succ _ hrun₂, run_add _ _ hrun₃, run_succ _ hrun₄]
  rfl

/-- The bits the counts decide, shifted into `v` one by one (R136). -/
def shiftBits (p : Params) (counts : List (Nat × Nat)) (v : Frame) : Frame :=
  counts.foldl (fun w k => shiftIn w (bitValue p k)) v

/-- All the bits still missing, from the first cycle of the next: `CHECK` follows with each of them shifted in. -/
theorem Reads.frame {counts : List (Nat × Nat)} (h : Reads s (frameSamples counts ++ rest))
    (hlen : s.capture.bitIdx.toNat + counts.length = 40)
    (hst : s.capture.st = if s.capture.bitIdx = 40#6 then St.check else St.bitLow) (hcnt : s.capture.cnt = 0)
    (hT : ∀ k ∈ counts, k.1 < s.capture.params.tTimeout ∧ k.2 < s.capture.params.tTimeout) :
    ∃ t, run (frameSamples counts).length s = .next t ∧ Reads t rest ∧ t.capture.st = St.check ∧
      t.capture.sr = shiftBits s.capture.params counts s.capture.sr := by
  induction counts generalizing s with
  | nil =>
    have hidx : s.capture.bitIdx = 40#6 := BitVec.eq_of_toNat_eq hlen
    exact ⟨s, rfl, h, by rw [hst, if_pos hidx], rfl⟩
  | cons k counts ih =>
    obtain ⟨lo, hi⟩ := k
    rw [List.length_cons] at hlen
    have hnot : s.capture.bitIdx ≠ 40#6 := fun e => by rw [e] at hlen; simp at hlen
    rw [if_neg hnot] at hst
    obtain ⟨hlo, hhi⟩ := hT _ List.mem_cons_self
    rw [frameSamples, List.append_assoc] at h
    obtain ⟨u, hu, hrest, hcap⟩ := h.bit hst hcnt hlo hhi
    have hsucc : (s.capture.bitIdx + 1#6).toNat = s.capture.bitIdx.toNat + 1 := bitIdx_succ (b := s.block) (by
      show s.capture.bitIdx.toNat ≤ 39
      omega)
    have hlast : s.capture.bitIdx = 39#6 ↔ s.capture.bitIdx + 1#6 = 40#6 := by
      rw [← BitVec.toNat_inj, ← BitVec.toNat_inj, hsucc]
      simp
    obtain ⟨t, ht, hrest', hcheck, hsr⟩ := ih hrest (by rw [hcap]; show (s.capture.bitIdx + 1#6).toNat + _ = _; omega)
      (by rw [hcap]; simp only [hlast]) (by rw [hcap]; exact hcnt)
      (by rw [hcap]; exact fun k hk => hT k (List.mem_cons_of_mem _ hk))
    refine ⟨t, ?_, hrest', hcheck, ?_⟩
    · rw [frameSamples, List.length_append, run_add _ _ hu, ht]
    · rw [hsr, hcap]
      rfl

/-! ### The value and the bits of a captured frame -/

/-- Up to forty bits of width in all, shifting in is reading on the value of R52. -/
theorem shiftBits_toNat {counts : List (Nat × Nat)} {v : Frame} {k : Nat} (hv : v.toNat < 2 ^ k)
    (hk : k + counts.length ≤ 40) :
    (shiftBits p counts v).toNat = counts.foldl (fun n c => 2 * n + (bitValue p c).toNat) v.toNat := by
  induction counts generalizing v k with
  | nil => rfl
  | cons c counts ih =>
    rw [List.length_cons] at hk
    have hpow : 2 ^ (k + 1) ≤ 2 ^ 40 := Nat.pow_le_pow_right (by decide) (by omega)
    have hbit := Bool.toNat_le (bitValue p c)
    have hlt : 2 * v.toNat + (bitValue p c).toNat < 2 ^ (k + 1) := by rw [pow_succ]; omega
    have hshift : (shiftIn v (bitValue p c)).toNat = 2 * v.toNat + (bitValue p c).toNat := by
      rw [shiftIn_toNat, Nat.mod_eq_of_lt (lt_of_lt_of_le hlt hpow)]
    have := ih (v := shiftIn v (bitValue p c)) (k := k + 1) (by rw [hshift]; exact hlt) (by omega)
    rw [hshift] at this
    exact this

theorem shiftIn_getLsbD_zero (v : Frame) (x : Bool) : (shiftIn v x).getLsbD 0 = x := by
  simp [shiftIn]

theorem shiftIn_getLsbD_succ (v : Frame) (x : Bool) {n : Nat} (hn : n < 39) :
    (shiftIn v x).getLsbD (n + 1) = v.getLsbD n := by
  simp [shiftIn, hn]

/-- The bit shifted in at `j` has moved up by one for each bit after it. -/
theorem shiftBits_getLsbD {counts : List (Nat × Nat)} {v : Frame} (hlen : counts.length ≤ 40) {j : Nat}
    (hj : j < counts.length) :
    (shiftBits p counts v).getLsbD (counts.length - 1 - j) = bitValue p counts[j] := by
  induction counts using List.reverseRecOn with
  | nil => cases hj
  | append_singleton counts c ih =>
    have hfold : shiftBits p (counts ++ [c]) v = shiftIn (shiftBits p counts v) (bitValue p c) := by simp [shiftBits]
    rw [List.length_append, List.length_singleton] at hlen hj
    rw [hfold]
    by_cases hlast : j = counts.length
    · subst hlast
      rw [show (counts ++ [c]).length - 1 - counts.length = 0 by simp, shiftIn_getLsbD_zero, List.getElem_concat_length rfl]
    · have hj' : j < counts.length := by omega
      rw [List.getElem_append_left hj', ← ih (by omega) hj',
        show (counts ++ [c]).length - 1 - j = counts.length - 1 - j + 1 by simp; omega,
        shiftIn_getLsbD_succ _ _ (by omega)]

/-! ### The checksum -/

/-- The claims' checksum in whole numbers is the machine's (R160). -/
theorem checksumOk_iff_sumMatches (v : Frame) : checksumOk v = true ↔ sumMatches v := checksumOk_iff_toNat v

theorem checksumOk_eq_false_iff (v : Frame) : checksumOk v = false ↔ ¬ sumMatches v := by
  rw [← checksumOk_iff_sumMatches, Bool.not_eq_true]

/-- In `CHECK` the next cycle shows the frame, or the failure of its checksum (R160 to R162). -/
theorem Reads.check (h : Reads s (x :: rest)) (hst : s.capture.st = St.check) :
    ∃ u, Machine.step s = .next u ∧ u.block.st = St.ready ∧ u.block.done = true ∧
      (sumMatches s.block.sr → u.block.buf = s.block.sr ∧ u.block.ok = true ∧ u.block.err = 0#3) ∧
      (¬ sumMatches s.block.sr → u.block.buf = 0#40 ∧ u.block.ok = false ∧ u.block.err = 4#3) := by
  by_cases hk : sumMatches s.block.sr
  · obtain ⟨hstep, -⟩ := h.step (stateOp_check_commits hst ((checksumOk_iff_sumMatches _).2 hk))
    exact ⟨_, hstep, rfl, rfl, fun _ => ⟨rfl, rfl, rfl⟩, fun hn => absurd hk hn⟩
  · obtain ⟨hstep, -⟩ := h.step (stateOp_check_fails hst ((checksumOk_eq_false_iff _).2 hk))
    exact ⟨_, hstep, rfl, rfl, fun hs => absurd hs hk, fun _ => ⟨rfl, rfl, rfl⟩⟩

/-- The samples known, and one more cycle without reset whose sample is whatever it is. -/
theorem reads_append_next {l : List Bool} (hi : Inv s) (hr : s.noReset (l.length + 1))
    (hl : ∀ n, n < l.length → l[n]? = some (s.sampleAt n)) : Reads s (l ++ [s.sampleAt l.length]) where
  inv := hi
  noReset := by rw [List.length_append]; exact hr
  samples n hn := by
    rw [List.length_append, List.length_singleton] at hn
    by_cases hlast : n = l.length
    · simp [hlast]
    · rw [List.getElem?_append_left (by omega), hl n (by omega)]

/-- Settles O28: the frame is followed bit by bit into `CHECK`, `SR` starting at 0 because nothing has been captured; the
cycle after is the checksum's. -/
theorem frameIsCapturedInWireOrder : Obligations.FrameIsCapturedInWireOrder := by
  intro s counts hinv hst hidx hcnt hlen hT hr hl
  have hsr : s.block.sr.toNat < 2 ^ 0 := by simpa [hidx] using hinv.sr_bits
  obtain ⟨t, hrun, hrest, hcheck, hcap⟩ := (reads_append_next hinv hr hl).frame
    (by rw [hlen]; show s.block.bitIdx.toNat + 40 = 40; rw [hidx]; rfl)
    (by show s.block.st = if s.block.bitIdx = 40#6 then _ else _; rw [hst, hidx]; rfl) hcnt hT
  have hbits : t.block.sr = shiftBits s.params counts s.block.sr := hcap
  obtain ⟨u, hstep, hready, hdone, hpass, hfail⟩ := hrest.check hcheck
  refine ⟨t, u, hrun, hcheck, ?_, fun j => ?_, hstep, hready, hdone, hpass, hfail⟩
  · rw [hbits, shiftBits_toNat hsr (by omega), show s.block.sr.toNat = 0 by omega]
    rfl
  · have hj : j.val < counts.length := by omega
    have hbit := shiftBits_getLsbD (p := s.params) (v := s.block.sr) hlen.le hj
    rw [hlen] at hbit
    rw [wireBit, hbits, List.getElem?_eq_getElem hj]
    exact hbit

end Sys2Proof.Machine

/-! The result registers (20_memory.md R55, R59): only a completion event writes them. -/

namespace Sys2Proof.Machine

open Sys2Proof.Claims

variable {s t : State} {b c : Block} {p : Params} {i : Inputs}

/-- A transfer that leaves `DONE` at 0 leaves the results (R59). -/
theorem Transfer.results_kept (h : Transfer p i b c) (hc : c.done = false) :
    c.buf = b.buf ∧ c.ok = b.ok ∧ c.err = b.err ∧ c.hit = b.hit := by
  cases h
  case hit | expire | commit | reject => cases hc
  all_goals exact ⟨rfl, rfl, rfl, rfl⟩

/-- A step that answers without reset is a register transfer, and the synchronizer's move. -/
theorem step_transfer_of_noReset (hr : s.inputs.rst = false) (h : step s = .next t) :
    ∃ c, Transfer s.params s.inputs s.block.clearDone c ∧ t = s.advance (c.latch s.inputs.dqIn) := by
  rcases step_transfer h with ⟨hr', -⟩ | ⟨-, -, hc⟩
  · rw [hr] at hr'
    cases hr'
  · exact hc

/-- The codes of R76 are those the machine writes. -/
theorem codeOf_eq_bits (code : FailCode) : codeOf code = code.bits := by cases code <;> rfl

/-- A measurement that expires is the cause of its own code (R200). -/
theorem causes_of_expired {st : StateCode} {level : Bool} {code : FailCode} (h : MeasureRow st level code)
    (hs : s.block.st = st) (hl : s.block.sync2 = level) (hd : s.block.cnt = s.params.tTimeout - 1) : causes s code := by
  cases h
  case respLow => exact ⟨hs, hl, hd⟩
  case respHigh => exact .inl ⟨hs, hl, hd⟩
  case respEnd => exact .inr ⟨hs, hl, hd⟩
  case bitLow => exact .inl ⟨hs, hl, hd⟩
  case bitHigh => exact .inr ⟨hs, hl, hd⟩

/-- The completion events: a hit, the success commit, the failure commit of a cause (R161, R163, R182). -/
theorem Transfer.completion (h : Transfer s.params s.inputs s.block.clearDone c) (hr : s.inputs.rst = false)
    (hd : c.done = true) :
    (s.selected = .reqSampleHit ∧ c.latch s.inputs.dqIn = { common s with done := true, hit := true }) ∨
      (s.selected = .check ∧ sumMatches s.block.sr ∧ c.latch s.inputs.dqIn = succeeded s) ∨
      ∃ code, causes s code ∧ c.latch s.inputs.dqIn = failed s (codeOf code) := by
  cases h
  case hit hs hq hce hf =>
    have hsel : s.selected = .reqSampleHit := by
      rw [selected_of_ready hr hs]
      simp only [fresh_clearDone] at hf
      simp [hq, hce, hf]
    exact .inl ⟨hsel, rfl⟩
  case commit hs hk =>
    have hst : s.block.st = 9#4 := hs
    have hsel : s.selected = .check := by
      rw [selected_of_busy hr (by rw [hst]; decide), State.microOp, hst]
      rfl
    exact .inr (.inl ⟨hsel, (checksumOk_iff_sumMatches _).1 hk, rfl⟩)
  case expire code hm hs hl hcnt =>
    exact .inr (.inr ⟨code, causes_of_expired hm hs hl hcnt, by rw [codeOf_eq_bits]; rfl⟩)
  case reject hs hk => exact .inr (.inr ⟨.checksum, ⟨hs, (checksumOk_eq_false_iff _).1 hk⟩, rfl⟩)
  all_goals cases hd

/-- Settles O31: of the register transfers only the four completions set `DONE`, and only they write a result. -/
theorem resultRegistersChangeTogether : Obligations.ResultRegistersChangeTogether := by
  intro s t h hr
  obtain ⟨c, hc, rfl⟩ := step_transfer_of_noReset hr h
  refine ⟨fun hd => hc.results_kept hd, fun hd => ⟨hc.done_ready rfl hd, ?_⟩⟩
  rcases hc.completion hr hd with ⟨hsel, e⟩ | ⟨hsel, hsum, e⟩ | ⟨code, hcause, e⟩
  · exact .inl ⟨hsel, congrArg s.advance e⟩
  · exact .inr (.inl ⟨hsel, hsum, congrArg s.advance e⟩)
  · exact .inr (.inr ⟨code, hcause, congrArg s.advance e⟩)

/-- Settles O32, by induction on the cycles from the first: each shows no completion event, so it leaves the results. -/
theorem resultsHoldUntilTheNextCompletion : Obligations.ResultsHoldUntilTheNextCompletion := by
  intro s t n
  induction n generalizing s with
  | zero =>
    intro _ h _
    cases h
    exact ⟨rfl, rfl, rfl, rfl⟩
  | succ n ih =>
    intro hn h hdone
    obtain ⟨u, hu, hrun⟩ := run_succ_next_iff.1 h
    obtain ⟨c, -, rfl⟩ := step_transfer_of_noReset hn.head hu
    have hfirst := hdone 1 _ Nat.one_pos (by omega) (run_succ 0 hu)
    obtain ⟨hbuf, hok, herr, hhit⟩ := (resultRegistersChangeTogether s _ hu hn.head).1 hfirst
    obtain ⟨hbuf', hok', herr', hhit'⟩ := ih _ hn.tail hrun fun k v _ hk hv =>
      hdone (k + 1) v k.succ_pos (by omega) ((run_succ k hu).trans hv)
    exact ⟨hbuf'.trans hbuf, hok'.trans hok, herr'.trans herr, hhit'.trans hhit⟩

end Sys2Proof.Machine

/-! The layout of a frame (20_memory.md R51, R52). -/

namespace Sys2Proof.Machine

/-- Bit `n` of byte `k` of a frame, counted from the byte's lowest (R51). -/
theorem byteOf_getLsbD (v : Frame) (k : Fin 5) {n : Nat} (hn : n < 8) :
    (byteOf v k).getLsbD n = v.getLsbD (32 - 8 * k.val + n) := by
  simp [byteOf, hn]

/-- A frame is its five bytes, byte 0 the highest: each byte starts where the one before it ends (R51). -/
theorem frame_eq_bytes (v : Frame) : v = byteOf v 0 ++ byteOf v 1 ++ byteOf v 2 ++ byteOf v 3 ++ byteOf v 4 := by
  show v = v.extractLsb' 32 8 ++ v.extractLsb' 24 8 ++ v.extractLsb' 16 8 ++ v.extractLsb' 8 8 ++ v.extractLsb' 0 8
  rw [BitVec.extractLsb'_append_extractLsb'_eq_extractLsb' (show 32 = 24 + 8 from rfl),
    BitVec.extractLsb'_append_extractLsb'_eq_extractLsb' (show 24 = 16 + 8 from rfl),
    BitVec.extractLsb'_append_extractLsb'_eq_extractLsb' (show 16 = 8 + 8 from rfl),
    BitVec.extractLsb'_append_extractLsb'_eq_extractLsb' (show 8 = 0 + 8 from rfl)]
  exact BitVec.extractLsb'_eq_self.symm

/-- Settles O36: the bytes tile the frame, and counting bits from a byte's highest is counting the wire's. -/
theorem frameBytesAndWireBits : Obligations.FrameBytesAndWireBits := by
  refine ⟨frame_eq_bytes, fun _ _ => rfl, fun v k m => ?_⟩
  rw [byteOf_getLsbD v k (by omega)]
  congr 1
  omega

end Sys2Proof.Machine

/-! The decoder and the encoder of 30_encoding.md section 2, one against the other. -/

namespace Sys2Proof

variable {c : SelectCtx} {f : Format} {i : Instr}

/-! ### The command format (R74) -/

/-- The vector `010`, a request in `READY`, is the one that `CACHE_EN` and freshness decide. -/
theorem decodeCommand_request (c : SelectCtx) :
    decodeCommand c 0b010#3 =
      if !c.cacheEn then .reqAcquire else if c.fresh then .reqSampleHit else .reqSampleMiss := rfl

/-- The eight values of the vector, one by one. -/
theorem cmdVector_cases (v : CmdVector) :
    v = 0b000#3 ∨ v = 0b001#3 ∨ v = 0b010#3 ∨ v = 0b011#3 ∨ v = 0b100#3 ∨ v = 0b101#3 ∨ v = 0b110#3 ∨ v = 0b111#3 := by
  revert v; decide

/-- The row a request selects is a command whose condition holds, and its word is `010`. -/
theorem decodeCommand_request_row (c : SelectCtx) :
    (decodeCommand c 0b010#3).format = .cmd ∧ (decodeCommand c 0b010#3).wf c = true ∧
      encodeWord (decodeCommand c 0b010#3) = 0b010#8 := by
  rw [decodeCommand_request]
  cases hc : c.cacheEn
  · simp [Instr.format, Instr.wf, encodeWord, hc]
  · cases hf : c.fresh <;> simp [Instr.format, Instr.wf, encodeWord, hc, hf]

/-- Every vector selects a command whose condition holds, and is its word but for the don't-care bits of `1--` and `00-`. -/
theorem decodeCommand_row (c : SelectCtx) (v : CmdVector) :
    (decodeCommand c v).format = .cmd ∧ (decodeCommand c v).wf c = true ∧
      (v.setWidth 8 = encodeWord (decodeCommand c v) ∨ (decodeCommand c v = .nop ∧ v.setWidth 8 = 0b001#8) ∨
        (decodeCommand c v = .rst ∧ (v.setWidth 8 = 0b101#8 ∨ v.setWidth 8 = 0b110#8 ∨ v.setWidth 8 = 0b111#8))) := by
  rcases cmdVector_cases v with rfl | rfl | rfl | rfl | rfl | rfl | rfl | rfl
  · exact ⟨rfl, rfl, .inl rfl⟩
  · exact ⟨rfl, rfl, .inr (.inl ⟨rfl, rfl⟩)⟩
  · obtain ⟨hformat, hwf, hword⟩ := decodeCommand_request_row c
    exact ⟨hformat, hwf, .inl hword.symm⟩
  · exact ⟨rfl, rfl, .inl rfl⟩
  · exact ⟨rfl, rfl, .inl rfl⟩
  · exact ⟨rfl, rfl, .inr (.inr ⟨rfl, .inl rfl⟩)⟩
  · exact ⟨rfl, rfl, .inr (.inr ⟨rfl, .inr (.inl rfl)⟩)⟩
  · exact ⟨rfl, rfl, .inr (.inr ⟨rfl, .inr (.inr rfl)⟩)⟩

/-! ### The state format (R75) -/

/-- Every value of `ST` selects a row of its format whose condition holds, and is its word: no bit is free. -/
theorem decodeState_row (c : SelectCtx) (v : StateCode) :
    (decodeState c.strategy v).format = .ustate ∧ (decodeState c.strategy v).wf c = true ∧
      v.setWidth 8 = encodeWord (decodeState c.strategy v) := by
  obtain ⟨cacheEn, strategy, fresh⟩ := c
  cases hr : St.reserved v
  · rcases Machine.st_used_cases hr with rfl | rfl | rfl | rfl | rfl | rfl | rfl | rfl | rfl | rfl
    case inr.inr.inr.inr.inr.inr.inr.inr.inl => cases strategy <;> exact ⟨rfl, rfl, rfl⟩
    all_goals exact ⟨rfl, rfl, rfl⟩
  · rcases Machine.st_reserved_cases hr with rfl | rfl | rfl | rfl | rfl | rfl <;> exact ⟨rfl, rfl, rfl⟩

/-! ### Bytes -/

/-- The row of a byte's low bits in a format. -/
def decodeLowBits (c : SelectCtx) (b : BitVec 8) : Format → Instr
  | .cmd => decodeCommand c (b.setWidth 3)
  | .ustate => decodeState c.strategy (b.setWidth 4)

/-- All the decoder answers: the row of the one byte it was given, which has no bit above the format's width. -/
theorem decodeBytes_ok_iff {bytes : List (BitVec 8)} :
    decodeBytes c f bytes = .ok i ↔ ∃ b, bytes = [b] ∧ b.toNat < 2 ^ f.width ∧ i = decodeLowBits c b f := by
  match bytes with
  | [] => simp [decodeBytes]
  | _ :: _ :: _ => simp [decodeBytes]
  | [b] =>
    by_cases hb : 2 ^ f.width ≤ b.toNat
    · simp [decodeBytes, hb]
    · cases f <;> simp [decodeBytes, decodeLowBits, hb, Nat.lt_of_not_le hb, eq_comm]

/-- Settles O7: the byte the decoder read is its own low bits, and each format's table gives these bits' row. -/
theorem decodedBytesAreTheRowsWord : Obligations.DecodedBytesAreTheRowsWord := by
  intro c f bytes i h
  obtain ⟨b, rfl, hb, rfl⟩ := decodeBytes_ok_iff.1 h
  cases f
  case cmd =>
    have hrow := decodeCommand_row c (b.setWidth 3)
    rw [BitVec.setWidth_setWidth_eq_self hb] at hrow
    simpa [decodeLowBits, encode] using hrow
  case ustate =>
    obtain ⟨hformat, hwf, hword⟩ := decodeState_row c (b.setWidth 4)
    rw [BitVec.setWidth_setWidth_eq_self hb] at hword
    exact ⟨hformat, hwf, .inl (congrArg (fun w => [w]) hword)⟩

/-- Settles O6: a row's word is in the low bits of a byte, and where rows share a word their conditions tell them apart. -/
theorem encodedRowDecodesToItself : Obligations.EncodedRowDecodesToItself := by
  intro c i h
  obtain ⟨cacheEn, strategy, fresh⟩ := c
  cases i
  case reqAcquire =>
    obtain rfl : cacheEn = false := by simpa [Instr.wf] using h
    rfl
  case reqSampleHit =>
    obtain ⟨rfl, rfl⟩ : cacheEn = true ∧ fresh = true := by simpa [Instr.wf] using h
    rfl
  case reqSampleMiss =>
    obtain ⟨rfl, rfl⟩ : cacheEn = true ∧ fresh = false := by simpa [Instr.wf] using h
    rfl
  case bitHighA =>
    obtain rfl : strategy = .A := by simpa [Instr.wf] using h
    rfl
  case bitHighB =>
    obtain rfl : strategy = .B := by simpa [Instr.wf] using h
    rfl
  all_goals rfl

/-- Settles O3: seven vectors select one command each, and the request `010` one for each value of `CACHE_EN`. -/
theorem commandVectorSelectsOneCommand : Obligations.CommandVectorSelectsOneCommand := by
  intro c
  have hbits : ∀ r q b : Bool,
      (cmdVector r q b).getLsbD 2 = r ∧ (cmdVector r q b).getLsbD 1 = q ∧ (cmdVector r q b).getLsbD 0 = b := by decide
  refine ⟨rfl, rfl, rfl, rfl, rfl, rfl, rfl, fun hc => ?_, fun hc hf => ?_, fun hc hf => ?_, hbits⟩
  · rw [decodeCommand_request]; simp [hc]
  · rw [decodeCommand_request]; simp [hc, hf]
  · rw [decodeCommand_request]; simp [hc, hf]

/-- Settles O5: the decoder evaluated on each word. -/
theorem writtenWordsDecode : Obligations.WrittenWordsDecode :=
  ⟨rfl, rfl, rfl, rfl, rfl, rfl, rfl, rfl, rfl, rfl, rfl⟩

end Sys2Proof

/-! The two names of a cycle (40_handshake.md R100): the command of `{rst, req, busy}` and the row of `ST`. -/

namespace Sys2Proof.Machine

variable {s : State}

/-- Outside `READY` a cycle without reset has one of the two commands that are the state's own cycle (R101, R103). -/
theorem command_of_busy (hr : s.inputs.rst = false) (hs : s.block.st ≠ St.ready) :
    s.command = if s.inputs.req then .reqIgnored else .nop := by
  have hb : s.block.busy = true := by simpa [Block.busy] using hs
  rw [State.command, State.cmdVector, decodeCommand_vector]
  cases hq : s.inputs.req <;> simp [hr, hb]

/-- In `READY` the row `READY` has the step's outcome: it decodes the command (R100). -/
theorem exec_ready_eq_step (hr : s.inputs.rst = false) (hs : s.block.st = St.ready) : exec .ready s = step s := by
  have hop : stateOp s.params s.inputs s.block.clearDone = some (readyOp s.params s.inputs s.block.clearDone) := by
    simp [stateOp, hs]
  rw [step_eq hr hop, exec_ready]
  rfl

/-- Outside `READY` the command has the outcome of the row of `ST` (R101, R103). -/
theorem exec_command_of_busy (hr : s.inputs.rst = false) (hs : s.block.st ≠ St.ready) :
    exec s.command s = exec s.microOp s := by
  rw [command_of_busy hr hs, ← runState_of_busy hs]
  cases s.inputs.req
  · exact exec_nop s
  · exact exec_reqIgnored s

/-- Settles O9: in `READY` the step runs the command, elsewhere the row of `ST`; there the other name has the same outcome. -/
theorem commandAndStateNameTheSameCycle : Obligations.CommandAndStateNameTheSameCycle := by
  intro s hr
  by_cases hs : s.block.st = St.ready
  · have hop : s.microOp = .ready := by rw [State.microOp, hs]; rfl
    rw [hop, command_of_ready hr hs]
    exact ⟨rfl, exec_ready_eq_step hr hs⟩
  · have hstep : step s = exec s.microOp s := by rw [step, selected_of_busy hr hs]
    rw [hstep]
    exact ⟨exec_command_of_busy hr hs, rfl⟩

/-- Settles O4: the table of R75 evaluated on each value, and the selection of R100. -/
theorem stateCodeSelectsItsMicroOperation : Obligations.StateCodeSelectsItsMicroOperation := by
  refine ⟨fun g => ?_, fun s hr => ⟨fun hs => selected_of_busy hr hs, fun hs => (command_of_ready hr hs).symm⟩⟩
  exact ⟨rfl, rfl, rfl, rfl, rfl, rfl, rfl, rfl, rfl, rfl, rfl, rfl, rfl, rfl, rfl, rfl, rfl⟩

end Sys2Proof.Machine

/-! Reserved values (30_encoding.md R77, 93_implementation_defined.md rows 2 to 4). -/

namespace Sys2Proof.Machine

variable {s t : State} {f : Fault}

theorem st_used_iff (v : StateCode) : St.reserved v = false ↔ v.toNat ≤ 9 := by simp [St.reserved]

theorem err_used_iff (v : ErrBits) : Err.reserved v = false ↔ v.toNat ≤ 4 := by simp [Err.reserved]

/-- A reserved `ERR` is found first (log 7). -/
theorem reservedValue_of_err {b : Block} (h : Err.reserved b.err = true) : b.reservedValue = some (.reservedErr b.err) := by
  simp [Block.reservedValue, h]

/-- A reserved `BITIDX` is found where `ERR` is in use (log 7). -/
theorem reservedValue_of_bitIdx {b : Block} (he : Err.reserved b.err = false) (h : BitIdx.reserved b.bitIdx = true) :
    b.reservedValue = some (.reservedBitIdx b.bitIdx) := by
  simp [Block.reservedValue, he, h]

/-- A step without reset in a used state faults with the reserved value it finds (R77). -/
theorem step_of_reservedValue (hr : s.inputs.rst = false) (hs : St.reserved s.block.st = false)
    (hf : s.block.reservedValue = some f) : step s = .fault f := by
  obtain ⟨c, hc⟩ := stateOp_isSome s.params s.inputs (b := s.block.clearDone) hs
  rw [step_eq hr hc, State.tick, hf]

/-- No step writes a reserved `ST` or `ERR`. -/
theorem step_next_used (h : step s = .next t) : St.reserved t.block.st = false ∧ Err.reserved t.block.err = false := by
  rcases step_transfer h with ⟨-, rfl⟩ | ⟨-, hu, c, hc, rfl⟩
  · exact ⟨rfl, rfl⟩
  · exact ⟨hc.st_used, hc.err_used (reservedValue_eq_none_iff.1 hu).1⟩

/-- Settles O42: a cycle looks at `ST`, `ERR` and `BITIDX` in this order, and no transfer writes a reserved value. -/
theorem reservedValuesFault : Obligations.ReservedValuesFault := by
  refine ⟨fun s => ⟨rfl, rfl, rfl, rfl, rfl, rfl⟩, fun s hr => ⟨fun hst => ?_, fun hst herr => ?_, fun hst herr hidx => ?_⟩,
    fun s t h => ?_⟩
  · exact step_of_reserved hr (decide_eq_true hst)
  · exact step_of_reservedValue hr ((st_used_iff _).2 hst) (reservedValue_of_err (decide_eq_true herr))
  · exact step_of_reservedValue hr ((st_used_iff _).2 hst)
      (reservedValue_of_bitIdx ((err_used_iff _).2 herr) (decide_eq_true hidx))
  · obtain ⟨hst, herr⟩ := step_next_used h
    have hidx (hs : Inv s) : t.block.bitIdx.toNat ≤ 40 :=
      (bitIdx_used_iff _).1 (stepKeepsTheInvariant s t hs h).bitIdx_used
    exact ⟨(st_used_iff _).1 hst, (err_used_iff _).1 herr, hidx⟩

end Sys2Proof.Machine

/-! The row a cycle runs, and what a cycle in `READY` does (40_handshake.md R100 to R102, 43_cache.md R181 to R183). -/

namespace Sys2Proof.Machine

open Sys2Proof.Claims

variable {s : State} {b c : Block} {i : Instr}

/-- The row a cycle selects has the step's outcome. -/
theorem runsTo_of_step (hsel : s.selected = i) (h : step s = .next (s.advance b)) : runsTo i s b :=
  ⟨hsel, by rwa [step, hsel] at h, h⟩

/-- In `READY` the command vector is `0 req 0` (R74). -/
theorem cmdVector_of_ready (hr : s.inputs.rst = false) (hs : s.block.st = St.ready) :
    s.cmdVector = Sys2Proof.cmdVector false s.inputs.req false := by
  simp [State.cmdVector, Block.busy, hr, hs]

/-- Settles O8: the selection of each kind of cycle, and what every register transfer keeps. -/
theorem stepRunsTheSelectedRow : Obligations.StepRunsTheSelectedRow := by
  refine fun s => ⟨rfl, selected_of_rst, fun hr hs => ?_, selected_of_busy, fun t h hr => ?_⟩
  · rw [← command_of_ready hr hs, State.command, cmdVector_of_ready hr hs]
    rfl
  · obtain ⟨c, hc, rfl⟩ := step_transfer_of_noReset hr h
    exact ⟨rfl, hc.sync1_eq, hc.done_ready rfl⟩

/-- The machine's freshness is R181 in whole numbers: the subtraction does not wrap where it is read. -/
theorem fresh_iff_isFresh (s : State) : s.block.fresh s.params s.inputs.nowMs = true ↔ isFresh s := by
  simp only [Block.fresh, isFresh, Bool.and_eq_true, Bool.not_eq_true', decide_eq_false_iff_not, decide_eq_true_eq,
    not_lt, and_assoc]
  refine and_congr_right fun _ => and_congr_right fun hle => ?_
  rw [BitVec.toNat_sub_of_le (BitVec.le_def.2 hle)]

/-- A cycle in `READY` decides the request (R100). -/
theorem step_of_ready (h : inState s St.ready) :
    step s = .next (s.advance ((readyOp s.params s.inputs s.block.clearDone).latch s.inputs.dqIn)) := by
  obtain ⟨hr, hs, hu⟩ := h
  exact step_of_unreserved hr hu (by simp [stateOp, hs])

/-- No request: the common part alone (R101). -/
theorem step_of_ready_idle (h : inState s St.ready) (hq : s.inputs.req = false) :
    step s = .next (s.advance (common s)) := by
  rw [step_of_ready h]
  simp only [readyOp, hq]
  rfl

/-- A request with no cache is accepted (R102). -/
theorem step_of_ready_acquire (h : requested s) (hc : s.params.cacheEn = false) :
    step s = .next (s.advance (accepted s)) := by
  rw [step_of_ready h.1]
  simp only [readyOp, h.2, hc]
  rfl

/-- A request the cache answers (R182). -/
theorem step_of_ready_hit (h : requested s) (hc : s.params.cacheEn = true) (hf : isFresh s) :
    step s = .next (s.advance { common s with done := true, hit := true }) := by
  rw [step_of_ready h.1]
  simp only [readyOp, h.2, hc, fresh_clearDone, (fresh_iff_isFresh s).2 hf]
  rfl

/-- A request the cache cannot answer is stamped and accepted (R183). -/
theorem step_of_ready_miss (h : requested s) (hc : s.params.cacheEn = true) (hf : ¬ isFresh s) :
    step s = .next (s.advance { accepted s with lastT := s.inputs.nowMs, hasRun := true }) := by
  have hf' : s.block.fresh s.params s.inputs.nowMs = false := by rwa [← fresh_iff_isFresh, Bool.not_eq_true] at hf
  rw [step_of_ready h.1]
  simp only [readyOp, h.2, hc, fresh_clearDone, hf']
  rfl

/-- Outside `READY` the step is the cycle of the state (R100). -/
theorem step_eq_runState_of_busy (hr : s.inputs.rst = false) (hs : s.block.st ≠ St.ready) : step s = runState s := by
  rw [step, selected_of_busy hr hs, runState_of_busy hs]

/-- Settles O12: in `READY` the step of a cycle without request, elsewhere the cycle of the state under its two names. -/
theorem nopIsTheCommonPart : Obligations.NopIsTheCommonPart := by
  refine fun s hr hq => ⟨fun h => runsTo_of_step ?_ (step_of_ready_idle h hq), fun hs => ⟨?_, ?_, ?_⟩⟩
  · simp [selected_of_ready hr h.2.1, hq]
  · simp [command_of_busy hr hs, hq]
  · rw [exec_nop, runState_of_busy hs]
  · rw [exec_nop, step_eq_runState_of_busy hr hs]

/-- Settles O13: the request is selected as `REQ_ACQUIRE`, and the step accepts it. -/
theorem acquireStartsATransaction : Obligations.AcquireStartsATransaction := by
  intro s h hc
  refine ⟨runsTo_of_step ?_ (step_of_ready_acquire h hc), rfl⟩
  obtain ⟨⟨hr, hs, -⟩, hq⟩ := h
  simp [selected_of_ready hr hs, hq, hc]

/-- Settles O15: the row `READY`, the command and the step are one outcome, which each case of the request gives. -/
theorem readyDecodesTheCommand : Obligations.ReadyDecodesTheCommand := by
  intro s h
  have hstep : exec .ready s = step s := exec_ready_eq_step h.1 h.2.1
  rw [hstep]
  have hcommand : step s = exec s.command s := by rw [command_of_ready h.1 h.2.1, step]
  exact ⟨hcommand, rfl, step_of_ready_idle h, fun hq => step_of_ready_acquire ⟨h, hq⟩,
    fun hq => step_of_ready_hit ⟨h, hq⟩, fun hq => step_of_ready_miss ⟨h, hq⟩⟩

end Sys2Proof.Machine

/-! A request while busy (40_handshake.md R103). -/

namespace Sys2Proof.Machine

variable {s : State} {b : Block} {p : Params} {i j : Inputs} {rest : List Inputs}

/-- Outside `READY` the register transfer does not read the inputs. -/
theorem stateOp_inputs_of_busy (hs : b.st ≠ St.ready) : stateOp p i b = stateOp p j b := by
  unfold stateOp
  split
  case h_1 h0 => exact absurd (BitVec.eq_of_toNat_eq h0) hs
  all_goals rfl

/-- The next state depends on this cycle's inputs only through the registers. -/
theorem advance_inputs (hp : s.pending = i :: rest) :
    State.advance { s with pending := j :: rest } b = s.advance b := by
  simp [State.advance, hp]

/-- Outside `READY` a step reads of its inputs only the reset and the line. -/
theorem step_inputs_of_busy (hs : s.block.st ≠ St.ready) (hp : s.pending = i :: rest) (hrst : j.rst = i.rst)
    (hdq : j.dqIn = i.dqIn) : step { s with pending := j :: rest } = step s := by
  have hi : s.inputs = i := inputs_of_pending hp
  cases hr : i.rst
  case true =>
    rw [step_of_rst (s := { s with pending := j :: rest }) (hrst.trans hr), step_of_rst (by rw [hi, hr]),
      advance_inputs hp]
  case false =>
    have hr' : s.inputs.rst = false := by rw [hi, hr]
    cases hused : St.reserved s.block.st
    case true =>
      rw [step_of_reserved hr' hused, step_of_reserved (s := { s with pending := j :: rest }) (hrst.trans hr) hused]
    case false =>
      obtain ⟨c, hc⟩ := stateOp_isSome s.params s.inputs (b := s.block.clearDone) hused
      have hc' : stateOp s.params j s.block.clearDone = some c := by rw [← hc]; exact stateOp_inputs_of_busy hs
      rw [step_eq hr' hc, step_eq (s := { s with pending := j :: rest }) (hrst.trans hr) hc']
      have hline : State.inputs { s with pending := j :: rest } = j := rfl
      simp only [State.tick, advance_inputs hp, hline, hdq, hi]

/-- Settles O14: the command is the cycle of the state under another name, and that cycle does not read `req`. -/
theorem requestWhileBusyIsIgnored : Obligations.RequestWhileBusyIsIgnored := by
  intro s hr hq hs
  have hstep : step s = exec .reqIgnored s := by rw [exec_reqIgnored, step_eq_runState_of_busy hr hs]
  refine ⟨?_, ?_, hstep, fun i rest hp => step_inputs_of_busy hs hp rfl rfl, fun hu hused => ?_⟩
  · simp [command_of_busy hr hs, hq]
  · rw [exec_reqIgnored, runState_of_busy hs]
  · obtain ⟨c, hc⟩ := stateOp_isSome s.params s.inputs (b := s.block.clearDone) hused
    exact ⟨_, hstep ▸ step_of_unreserved hr hu hc⟩

end Sys2Proof.Machine

/-! The handshake (40_handshake.md R104 to R109): the timed phases, cycle by cycle and as a whole, and the response waits. -/

namespace Sys2Proof.Machine

open Sys2Proof.Claims

variable {s : State} {p : Params} {st next : StateCode} {d : Nat} {level : Bool} {code : FailCode} {exit : Block → Block}

/-! ### One cycle of a timed phase -/

/-- In a timed phase the register transfer is its count (R104, R105, R106). -/
theorem stateOp_timed {i : Inputs} {b : Block} (row : TimedRow p st d next) (hs : b.st = st) :
    stateOp p i b = some (b.timed p d next) := by
  cases row <;> simp [stateOp, hs]

/-- A duration is at least one cycle, and its counts fit the register (R7). -/
theorem TimedRow.duration (row : TimedRow p st d next) (hw : p.wf = true) : 1 ≤ d ∧ d ≤ 2 ^ p.cntW := by
  obtain ⟨hIdle, hStart, hRelease, -, -, -, hIdleFits, hStartFits, hReleaseFits, -⟩ := wf_iff.1 hw
  cases row
  case settle => exact ⟨hIdle, hIdleFits⟩
  case start => exact ⟨hStart, hStartFits⟩
  case release => exact ⟨hRelease, hReleaseFits⟩

/-- A count that has not passed its duration does not wrap: the machine's phase is that of the rules. -/
theorem latch_timed (row : TimedRow s.params st d next) (hw : s.params.wf = true) (hd : s.block.cnt < d) :
    (s.block.clearDone.timed s.params d next).latch s.inputs.dqIn = timedNext s d next := by
  obtain ⟨-, hfits⟩ := row.duration hw
  have hcases := timed_cases (b := s.block.clearDone) (p := s.params) d next
  simp only [Block.clearDone_cnt] at hcases
  rcases hcases with ⟨hc, e⟩ | ⟨hc, e⟩ <;> rw [e, timedNext]
  · rw [if_pos hc]
    rfl
  · rw [if_neg hc, nextCount_of_lt (d := d) (by omega) hfits]
    rfl

/-- A step in a timed phase (R104, R105, R106). -/
theorem step_of_timedRow (row : TimedRow s.params st d next) (hw : s.params.wf = true) (hu : s.block.unreserved)
    (hr : s.inputs.rst = false) (hst : s.block.st = st) (hd : s.block.cnt < d) :
    step s = .next (s.advance (timedNext s d next)) := by
  rw [step_of_unreserved hr hu (stateOp_timed row hst), latch_timed row hw hd]

/-- Under the invariant the count has not passed the duration (R104, R105, R106). -/
theorem Inv.cnt_lt_duration (h : Inv s) (row : TimedRow s.params st d next) (hst : s.block.st = st) :
    s.block.cnt < d := by
  cases row
  case settle => exact h.settle_cnt hst
  case start => exact h.start_cnt hst
  case release => exact h.release_cnt hst

/-- Outside `READY` the row of `ST` has the step's outcome. -/
theorem runsTo_decodeState {b : Block} (hr : s.inputs.rst = false) (hst : s.block.st = st) (h0 : st ≠ St.ready)
    (h : step s = .next (s.advance b)) : runsTo (decodeState s.params.strategy st) s b :=
  runsTo_of_step (by rw [selected_of_busy hr (hst ▸ h0), State.microOp, hst]) h

/-- The pad of a state with a row in the table of R35. -/
theorem padIs_of_padOf {oe o pu : Bool} (hst : s.block.st = st) (h : padOf st = some { oe := oe, o := o, pu := pu }) :
    padIs s oe o pu := by
  rw [padIs, outputs_of_padOf (hst ▸ h)]
  rfl

/-- Settles O22: each phase counts to its parameter, which the invariant says it has not passed. -/
theorem timedPhaseCountsThenLeaves : Obligations.TimedPhaseCountsThenLeaves := by
  intro s hi hr
  have hstep {st next d} (row : TimedRow s.params st d next) (hst : s.block.st = st) :
      step s = .next (s.advance (timedNext s d next)) :=
    step_of_timedRow row hi.params_wf hi.unreserved hr hst (hi.cnt_lt_duration row hst)
  refine ⟨fun hst => ⟨?_, padIs_of_padOf hst rfl⟩, fun hst => ⟨?_, padIs_of_padOf hst rfl⟩,
    fun hst => ⟨?_, padIs_of_padOf hst rfl⟩⟩
  · exact runsTo_decodeState hr hst (by decide) (hstep .settle hst)
  · exact runsTo_decodeState hr hst (by decide) (hstep .start hst)
  · exact runsTo_decodeState hr hst (by decide) (hstep .release hst)

/-! ### A timed phase as a whole -/

/-- The state is in the timed phase `st` of `d` cycles, and no reserved value stands. -/
structure InPhase (s : State) (st : StateCode) (d : Nat) (next : StateCode) : Prop where
  row : TimedRow s.params st d next
  params_wf : s.params.wf = true
  unreserved : s.block.unreserved
  st_eq : s.block.st = st

/-- Before the last cycle of a phase `CNT` counts, and the phase goes on. -/
theorem InPhase.counts (h : InPhase s st d next) (hr : s.inputs.rst = false) (hd : s.block.cnt + 1 < d) :
    ∃ b, step s = .next (s.advance b) ∧ InPhase (s.advance b) st d next ∧ b.cnt = s.block.cnt + 1 := by
  have hstep := step_of_timedRow h.row h.params_wf h.unreserved hr h.st_eq (by omega)
  rw [timedNext, if_neg (by omega)] at hstep
  exact ⟨_, hstep, ⟨h.row, h.params_wf, h.unreserved, h.st_eq⟩, rfl⟩

/-- The last cycle of a phase enters the following state. -/
theorem InPhase.leaves (h : InPhase s st d next) (hr : s.inputs.rst = false) (hd : s.block.cnt + 1 = d) :
    ∃ t, step s = .next t ∧ t.block.st = next ∧ t.block.cnt = 0 := by
  have hstep := step_of_timedRow h.row h.params_wf h.unreserved hr h.st_eq (by omega)
  rw [timedNext, if_pos (by omega)] at hstep
  exact ⟨_, hstep, rfl, rfl⟩

/-- Within the duration a phase counts its cycles, by induction on them from the first. -/
theorem InPhase.runs {n : Nat} (h : InPhase s st d next) (hr : s.noReset (n + 1)) (hd : s.block.cnt + n < d) :
    ∃ t, run n s = .next t ∧ InPhase t st d next ∧ t.block.cnt = s.block.cnt + n ∧ t.inputs.rst = false := by
  induction n generalizing s with
  | zero => exact ⟨s, rfl, h, rfl, hr.head⟩
  | succ n ih =>
    obtain ⟨b, hstep, hphase, hcnt⟩ := h.counts hr.head (by omega)
    obtain ⟨t, hrun, ht, htcnt, htr⟩ := ih hphase hr.tail (by rw [State.advance_block]; omega)
    rw [State.advance_block] at htcnt
    exact ⟨t, (run_succ n hstep).trans hrun, ht, by omega, htr⟩

/-- A phase entered with `CNT` = 0 lasts exactly its duration. -/
theorem lastsExactly_of_timedRow (row : TimedRow s.params st d next) (hw : s.params.wf = true)
    (hu : s.block.unreserved) : lastsExactly s st d next := by
  intro hst hcnt hr
  have hphase : InPhase s st d next := ⟨row, hw, hu, hst⟩
  have within (k : Nat) (hk : k < d) :
      ∃ t, run k s = .next t ∧ InPhase t st d next ∧ t.block.cnt = k ∧ t.inputs.rst = false := by
    obtain ⟨t, hrun, ht, htcnt, htr⟩ := hphase.runs (n := k) (fun j hj => hr j (by omega)) (by omega)
    exact ⟨t, hrun, ht, by omega, htr⟩
  refine ⟨fun k hk => ?_, ?_⟩
  · obtain ⟨t, hrun, ht, htcnt, -⟩ := within k hk
    exact ⟨t, hrun, ht.st_eq, htcnt⟩
  · obtain ⟨e, rfl⟩ : ∃ e, d = e + 1 := ⟨d - 1, by have := (row.duration hw).1; omega⟩
    obtain ⟨t, hrun, ht, htcnt, htr⟩ := within e e.lt_succ_self
    obtain ⟨u, hstep, hnext, hzero⟩ := ht.leaves htr (by omega)
    exact ⟨u, (run_add e 1 hrun).trans (run_succ 0 hstep), hnext, hzero⟩

/-- Settles O23: each of the three phases counts from 0 to its parameter, and its last cycle leaves. -/
theorem timedPhasesLastExactlyTheirParameter : Obligations.TimedPhasesLastExactlyTheirParameter := fun _ hw hu =>
  ⟨lastsExactly_of_timedRow .settle hw hu, lastsExactly_of_timedRow .start hw hu,
    lastsExactly_of_timedRow .release hw hu⟩

/-! ### The response waits -/

/-- Below the timeout a count does not wrap: the machine's measurement is that of R130, leaving by `exit` with `CNT` = 0. -/
theorem latch_measure (hi : Inv s) (row : MeasureRow st level code) (hst : s.block.st = st) :
    (s.block.clearDone.measure s.params level code exit).latch s.inputs.dqIn =
      measured s level code.bits (((exit s.block.clearDone).setCnt 0).latch s.inputs.dqIn) := by
  obtain ⟨-, -, -, -, -, -, -, -, -, hfits, -⟩ := wf_iff.1 hi.params_wf
  have hd : s.block.cnt < s.params.tTimeout := hi.measuring_cnt (by rw [hst]; cases row <;> decide)
  have hcases := measure_cases (b := s.block.clearDone) (p := s.params) level code exit
  simp only [Block.clearDone_sync2, Block.clearDone_cnt] at hcases
  rcases hcases with ⟨hl, hc, e⟩ | ⟨hl, hc, e⟩ | ⟨hl, e⟩ <;> rw [e, measured]
  · rw [if_pos hl, if_pos hc]
    rfl
  · rw [if_pos hl, if_neg hc, nextCount_of_lt (d := s.params.tTimeout) (by omega) hfits]
    rfl
  · rw [if_neg hl]

/-- A cycle of a measuring state runs its row, and measures (R130). -/
theorem runsTo_of_measureRow (hi : Inv s) (hr : s.inputs.rst = false) (row : MeasureRow st level code)
    (hst : s.block.st = st)
    (hop : stateOp s.params s.inputs s.block.clearDone = some (s.block.clearDone.measure s.params level code exit)) :
    runsTo (decodeState s.params.strategy st) s
      (measured s level code.bits (((exit s.block.clearDone).setCnt 0).latch s.inputs.dqIn)) := by
  refine runsTo_decodeState hr hst (by cases row <;> decide) ?_
  rw [step_of_unreserved hr hi.unreserved hop, latch_measure hi row hst]

/-- The register transfer of `RESP_LOW` (R107). -/
theorem stateOp_respLow {i : Inputs} {b : Block} (hs : b.st = St.respLow) :
    stateOp p i b = some (b.measure p true .noStartLow fun b => b.goto St.respHigh) := by
  simp [stateOp, hs]

/-- The register transfer of `RESP_HIGH` (R108). -/
theorem stateOp_respHigh {i : Inputs} {b : Block} (hs : b.st = St.respHigh) :
    stateOp p i b = some (b.measure p false .noStartHigh fun b => b.goto St.respEnd) := by
  simp [stateOp, hs]

/-- The register transfer of `RESP_END` (R109). -/
theorem stateOp_respEnd {i : Inputs} {b : Block} (hs : b.st = St.respEnd) :
    stateOp p i b = some (b.measure p true .noStartHigh fun b => b.goto St.bitLow) := by
  simp [stateOp, hs]

/-- Outside bit capture `crit` is 0 (R209). -/
theorem crit_eq_false {b : Block} (hst : b.st = st) (h : (st == St.bitLow || st == St.bitHigh) = false) :
    b.crit p = false := by
  rw [Block.crit, hst, h, Bool.and_false]

/-- Settles O24: each wait is a measurement with its level, code and exit, outside bit capture. -/
theorem responseWaitsMeasureTheLine : Obligations.ResponseWaitsMeasureTheLine := by
  intro s hi hr
  refine ⟨fun hst => ⟨?_, padIs_of_padOf hst rfl, crit_eq_false hst rfl⟩,
    fun hst => ⟨?_, padIs_of_padOf hst rfl, crit_eq_false hst rfl⟩,
    fun hst => ⟨?_, padIs_of_padOf hst rfl, crit_eq_false hst rfl⟩⟩
  · exact runsTo_of_measureRow hi hr .respLow hst (stateOp_respLow hst)
  · exact runsTo_of_measureRow hi hr .respHigh hst (stateOp_respHigh hst)
  · exact runsTo_of_measureRow hi hr .respEnd hst (stateOp_respEnd hst)

end Sys2Proof.Machine

/-! Bit capture, one cycle at a time (41_capture.md R133 to R137). -/

namespace Sys2Proof.Machine

open Sys2Proof.Claims

variable {s : State} {b : Block} {p : Params}

/-- In bit capture `crit` is 1 exactly under strategy `A` (R209). -/
theorem crit_of_capturing (hst : b.st = St.bitLow ∨ b.st = St.bitHigh) : b.crit p = (p.strategy == .A) := by
  rw [Block.crit, show (b.st == St.bitLow || b.st == St.bitHigh) = true by simpa using hst, Bool.and_true]

/-- The machine's shift is the rule's: all bits move up one place, and the new bit enters at the free one (R136). -/
theorem shiftIn_eq_shiftLeft_or (v : Frame) (x : Bool) :
    shiftIn v x = (v <<< 1) ||| (if x then 1#40 else 0#40) := by
  refine BitVec.eq_of_getLsbD_eq fun n hn => ?_
  cases n with
  | zero =>
    rw [shiftIn_getLsbD_zero]
    cases x <;> simp
  | succ n =>
    rw [shiftIn_getLsbD_succ v x (by omega)]
    cases x <;> simp [hn, Nat.lt_of_succ_lt hn]

/-- The exit of `BIT_HIGH` with the cycle's common part is the rule's capture of the bit (R134, R136, R137). -/
theorem latch_captureBit (s : State) (x : Bool) :
    ((captureBit x s.block.clearDone).setCnt 0).latch s.inputs.dqIn = captured s x := by
  rw [captured, ← shiftIn_eq_shiftLeft_or]
  rfl

/-- A cycle of `BIT_HIGH` runs the strategy's row: it measures, and its exit captures the decided bit (R134, R135). -/
theorem runsTo_bitHigh (hi : Inv s) (hr : s.inputs.rst = false) (hst : s.block.st = St.bitHigh) :
    runsTo (decodeState s.params.strategy St.bitHigh) s
      (measured s true 3#3 (captured s (decidedBit s.params s.block))) := by
  rw [← latch_captureBit]
  exact runsTo_of_measureRow hi hr .bitHigh hst (stateOp_bitHigh hst)

/-- Settles O25: the cycle is the measurement of the sync pulse, and `crit` is that of bit capture. -/
theorem bitLowMeasuresTheSyncPulse : Obligations.BitLowMeasuresTheSyncPulse := by
  refine fun s hi hr hst => ⟨?_, padIs_of_padOf hst rfl, ?_⟩
  · exact runsTo_of_measureRow hi hr .bitLow hst (stateOp_bitLow hst)
  · rw [crit_of_capturing (.inl hst), beq_iff_eq]

/-- Settles O26: under `A` the decided bit is the comparison of the two counts. -/
theorem strategyADecidesByComparison : Obligations.StrategyADecidesByComparison := by
  refine fun s hi hr hst hA => ⟨?_, padIs_of_padOf hst rfl, ?_⟩
  · have h := runsTo_bitHigh hi hr hst
    rwa [hA, decidedBit, hA] at h
  · rw [crit_of_capturing (.inr hst), hA]
    rfl

/-- Settles O27: under `B` the decided bit is the comparison with `THRESHOLD`. -/
theorem strategyBDecidesByThreshold : Obligations.StrategyBDecidesByThreshold := by
  refine fun s hi hr hst hB => ⟨?_, padIs_of_padOf hst rfl, ?_⟩
  · have h := runsTo_bitHigh hi hr hst
    rwa [hB, decidedBit, hB] at h
  · rw [crit_of_capturing (.inr hst), hB]
    rfl

end Sys2Proof.Machine

/-! What decides: the sample alone (41_capture.md R131). -/

namespace Sys2Proof.Machine

variable {s : State} {b c : Block} {p : Params} {i : Inputs} {x y : Bool}

/-- The registers with another value in `SYNC1`, the stage of the synchronizer no decision reads (R131). -/
def Block.withSync1 (b : Block) (x : Bool) : Block := { b with sync1 := x }

/-- A timed phase neither reads nor writes `SYNC1`. -/
theorem timed_withSync1 (d : Nat) (next : StateCode) :
    (b.withSync1 x).timed p d next = (b.timed p d next).withSync1 x := by
  rw [Block.timed, Block.timed, apply_ite (Block.withSync1 · x)]
  rfl

/-- A measurement neither reads nor writes `SYNC1` if its exit does not. -/
theorem measure_withSync1 {level : Bool} {code : FailCode} {exit : Block → Block}
    (hx : exit (b.withSync1 x) = (exit b).withSync1 x) :
    (b.withSync1 x).measure p level code exit = (b.measure p level code exit).withSync1 x := by
  rw [Block.measure, Block.measure, hx, apply_ite (Block.withSync1 · x), apply_ite (Block.withSync1 · x)]
  rfl

/-- The cycle of `READY` neither reads nor writes `SYNC1`. -/
theorem readyOp_withSync1 : readyOp p i (b.withSync1 x) = (readyOp p i b).withSync1 x := by
  rw [readyOp, readyOp]
  simp only [apply_ite (Block.withSync1 · x)]
  rfl

/-- No register transfer reads or writes `SYNC1`. -/
theorem stateOp_withSync1 (h : stateOp p i b = some c) : stateOp p i (b.withSync1 x) = some (c.withSync1 x) := by
  have hst : (b.withSync1 x).st = b.st := rfl
  rcases st_used_cases (used_of_stateOp h) with hv | hv | hv | hv | hv | hv | hv | hv | hv | hv <;>
    simp only [stateOp, hst, hv, Option.some.injEq, BitVec.toNat_ofNat, Nat.reducePow, Nat.reduceMod] at h ⊢ <;> subst h
  · exact readyOp_withSync1
  · exact timed_withSync1 _ _
  · exact timed_withSync1 _ _
  · exact timed_withSync1 _ _
  · exact measure_withSync1 rfl
  · exact measure_withSync1 rfl
  · exact measure_withSync1 rfl
  · exact measure_withSync1 rfl
  · exact measure_withSync1 rfl
  · rw [apply_ite (Block.withSync1 · x)]
    rfl

/-- No register transfer reads the line (R131). -/
theorem stateOp_dqIn : stateOp p { i with dqIn := y } b = stateOp p i b := rfl

/-- Settles O40: a reset writes the same registers, and a register transfer takes the other values along unread. -/
theorem onlyTheSampleDecides : Obligations.OnlyTheSampleDecides := by
  intro s t i rest x y hp h
  have hi : s.inputs = i := inputs_of_pending hp
  rcases step_next_cases h with ⟨hr, rfl⟩ | ⟨hr, -, hu, c, hc, rfl⟩ <;> rw [hi] at hr
  · exact ⟨_, step_of_rst hr, rfl⟩
  · rw [hi] at hc
    have hstep :=
      step_of_unreserved (s := { s with block := s.block.withSync1 x, pending := { i with dqIn := y } :: rest }) hr hu
        (stateOp_dqIn.trans (stateOp_withSync1 hc))
    exact ⟨_, hstep, rfl⟩

end Sys2Proof.Machine

/-! Every transaction ends (41_capture.md R139): the cycles a transaction can still last go down with each cycle. -/

namespace Sys2Proof.Machine

open Sys2Proof.Claims

variable {s t : State} {b c : Block} {p : Params} {i : Inputs} {st next : StateCode} {d n : Nat}

/-! ### A step under the invariant -/

/-- Under the invariant a cycle without reset answers, with a register transfer. -/
theorem Inv.step_transfer (hi : Inv s) (hr : s.inputs.rst = false) :
    ∃ c, Transfer s.params s.inputs s.block.clearDone c ∧ step s = .next (s.advance (c.latch s.inputs.dqIn)) := by
  obtain ⟨c, hc⟩ := stateOp_isSome s.params s.inputs (b := s.block.clearDone) hi.st_used
  exact ⟨c, stateOp_transfer hc, step_of_unreserved hr hi.unreserved hc⟩

/-- A cycle that accepts a request enters `SETTLE` with `CNT` = 0 (R102, R183). -/
theorem step_of_accepts (hi : Inv s) (ha : s.accepts = true) :
    ∃ b, step s = .next (s.advance b) ∧ b.st = St.settle ∧ b.cnt = 0 := by
  simp only [State.accepts, Bool.and_eq_true, Bool.not_eq_true', beq_iff_eq] at ha
  obtain ⟨⟨⟨hr, hst⟩, hq⟩, hmiss⟩ := ha
  have hreq : requested s := ⟨⟨hr, hst, hi.unreserved⟩, hq⟩
  cases hc : s.params.cacheEn
  · exact ⟨_, step_of_ready_acquire hreq hc, rfl, rfl⟩
  · rw [hc, Bool.true_and] at hmiss
    have hf : ¬ isFresh s := by rw [← fresh_iff_isFresh, hmiss]; exact Bool.false_ne_true
    exact ⟨_, step_of_ready_miss hreq hc hf, rfl, rfl⟩

/-! ### The cycles left -/

/-- The most cycles a state of a transaction lasts (R104 to R106, R130, R160). -/
def stateCycles (p : Params) (st : StateCode) : Nat :=
  match st.toNat with
  | 1 => p.tIdle
  | 2 => p.tStart
  | 3 => p.tRelease
  | 9 => 1
  | _ => p.tTimeout

/-- The most cycles that follow the state `st` in a transaction: of the 83 measuring states, those still to come last at
most `T_TIMEOUT` cycles each, and `CHECK` lasts one (R139). -/
def cyclesAfter (p : Params) (st : StateCode) (bitIdx : Nat) : Nat :=
  match st.toNat with
  | 1 => p.tStart + p.tRelease + 83 * p.tTimeout + 1
  | 2 => p.tRelease + 83 * p.tTimeout + 1
  | 3 => 83 * p.tTimeout + 1
  | 4 => 82 * p.tTimeout + 1
  | 5 => 81 * p.tTimeout + 1
  | 6 => 80 * p.tTimeout + 1
  | 7 => (79 - 2 * bitIdx) * p.tTimeout + 1
  | 8 => (78 - 2 * bitIdx) * p.tTimeout + 1
  | _ => 0

/-- The most cycles until the completion of the transaction the registers are in. -/
def Block.cyclesLeft (p : Params) (b : Block) : Nat :=
  stateCycles p b.st - b.cnt + cyclesAfter p b.st b.bitIdx.toNat

/-- From acceptance the cycles left are those of R139 but the cycle of the acceptance itself. -/
theorem cyclesLeft_of_accepted (hst : b.st = St.settle) (hcnt : b.cnt = 0) :
    b.cyclesLeft p + 1 = transactionBound p := by
  rw [Block.cyclesLeft, hst, hcnt, transactionBound]
  show p.tIdle - 0 + (p.tStart + p.tRelease + 83 * p.tTimeout + 1) + 1 = _
  omega

/-- The invariant's bounds on `CNT` and `BITIDX` that the cycles left rest on. -/
structure Block.InTime (p : Params) (b : Block) : Prop where
  cnt : b.st ≠ St.ready → b.cnt < stateCycles p b.st
  bits : b.st = St.bitLow ∨ b.st = St.bitHigh → b.bitIdx.toNat ≤ 39

theorem Inv.inTime (hi : Inv s) : s.block.InTime s.params where
  bits := hi.capturing_bits
  cnt h0 := by
    rcases st_used_cases hi.st_used with hv | hv | hv | hv | hv | hv | hv | hv | hv | hv <;> rw [hv]
    · exact absurd hv h0
    · exact hi.settle_cnt hv
    · exact hi.start_cnt hv
    · exact hi.release_cnt hv
    case inr.inr.inr.inr.inr.inr.inr.inr.inr =>
      rw [hi.idle_cnt (.inr hv)]
      exact Nat.one_pos
    all_goals exact hi.measuring_cnt (by rw [hv]; rfl)

/-- A timed phase lasts its duration, a measuring state at most `T_TIMEOUT` cycles (R104 to R106, R130). -/
theorem TimedRow.stateCycles_eq (row : TimedRow p st d next) : stateCycles p st = d := by cases row <;> rfl

theorem MeasureRow.stateCycles_eq {level : Bool} {code : FailCode} (row : MeasureRow st level code) :
    stateCycles p st = p.tTimeout := by cases row <;> rfl

/-- Counting a cycle leaves one fewer. -/
theorem cyclesLeft_count (hd : b.cnt + 1 < stateCycles p b.st) (hfits : stateCycles p b.st ≤ 2 ^ p.cntW) :
    Block.cyclesLeft p { b with cnt := nextCount p b.cnt } < b.cyclesLeft p := by
  simp only [Block.cyclesLeft, nextCount_of_lt hd hfits]
  omega

/-- Leaving a state for one whose own cycles are among those that follow it leaves at least one fewer. -/
theorem progresses_of_leave (next : StateCode) (hb : b.cnt < stateCycles p b.st) (hs : b.st = st)
    (hcnt : c.cnt = 0) (hnext : c.st = next) (h0 : next ≠ St.ready)
    (h : stateCycles p next + cyclesAfter p next c.bitIdx.toNat ≤ cyclesAfter p st b.bitIdx.toNat) :
    c.st ≠ St.ready ∧ c.cyclesLeft p < b.cyclesLeft p := by
  subst hs hnext
  refine ⟨h0, ?_⟩
  rw [Block.cyclesLeft, Block.cyclesLeft, hcnt]
  omega

/-- A timed phase is followed by the next state and what follows that. -/
theorem TimedRow.cyclesAfter_eq (row : TimedRow p st d next) (k : Nat) :
    cyclesAfter p st k = stateCycles p next + cyclesAfter p next k := by
  cases row <;> simp only [cyclesAfter, stateCycles, BitVec.toNat_ofNat, Nat.reducePow, Nat.reduceMod] <;> omega

/-- The response waits are followed by one another. -/
theorem cyclesAfter_respLow (k : Nat) :
    cyclesAfter p St.respLow k = stateCycles p St.respHigh + cyclesAfter p St.respHigh k := by
  show 82 * p.tTimeout + 1 = p.tTimeout + (81 * p.tTimeout + 1)
  omega

theorem cyclesAfter_respHigh (k : Nat) :
    cyclesAfter p St.respHigh k = stateCycles p St.respEnd + cyclesAfter p St.respEnd k := by
  show 81 * p.tTimeout + 1 = p.tTimeout + (80 * p.tTimeout + 1)
  omega

/-- The last response wait is followed by at most the 80 measurements of a frame. -/
theorem le_cyclesAfter_respEnd (k : Nat) :
    stateCycles p St.bitLow + cyclesAfter p St.bitLow k ≤ cyclesAfter p St.respEnd k := by
  show p.tTimeout + ((79 - 2 * k) * p.tTimeout + 1) ≤ 80 * p.tTimeout + 1
  have := Nat.mul_le_mul_right p.tTimeout (Nat.sub_le 79 (2 * k))
  omega

/-- A sync pulse is followed by its data pulse. -/
theorem cyclesAfter_bitLow {k : Nat} (hk : k ≤ 39) :
    cyclesAfter p St.bitLow k = stateCycles p St.bitHigh + cyclesAfter p St.bitHigh k := by
  show (79 - 2 * k) * p.tTimeout + 1 = p.tTimeout + ((78 - 2 * k) * p.tTimeout + 1)
  rw [show 79 - 2 * k = 78 - 2 * k + 1 by omega, Nat.succ_mul]
  omega

/-- A data pulse is followed by the next sync pulse, the fortieth by `CHECK` (R137). -/
theorem cyclesAfter_bitHigh {k : Nat} (hk : k < 39) :
    cyclesAfter p St.bitHigh k = stateCycles p St.bitLow + cyclesAfter p St.bitLow (k + 1) := by
  show (78 - 2 * k) * p.tTimeout + 1 = p.tTimeout + ((79 - 2 * (k + 1)) * p.tTimeout + 1)
  rw [show 78 - 2 * k = 79 - 2 * (k + 1) + 1 by omega, Nat.succ_mul]
  omega

theorem cyclesAfter_last_bit (k : Nat) :
    stateCycles p St.check + cyclesAfter p St.check k ≤ cyclesAfter p St.bitHigh 39 := by
  show 1 + 0 ≤ (78 - 2 * 39) * p.tTimeout + 1
  omega

/-- A cycle of a transaction completes it, or goes on with fewer cycles left. -/
theorem Transfer.completes_or_progresses (h : Transfer p i b c) (hw : p.wf = true) (hb : b.InTime p)
    (h0 : b.st ≠ St.ready) :
    (c.st = St.ready ∧ c.done = true ∧ c.hit = false) ∨ (c.st ≠ St.ready ∧ c.cyclesLeft p < b.cyclesLeft p) := by
  obtain ⟨-, -, -, -, -, -, -, -, -, hTimeout, -⟩ := wf_iff.1 hw
  have hcnt := hb.cnt h0
  cases h
  case idle hs _ | acquire hs _ _ | hit hs _ _ _ | miss hs _ _ _ => exact absurd hs h0
  case expire | commit | reject => exact .inl ⟨rfl, rfl, rfl⟩
  case leave next _ row hs hd =>
    exact .inr (progresses_of_leave next hcnt hs rfl rfl (by cases row <;> decide) (row.cyclesAfter_eq _).ge)
  case wait row hs hd =>
    rw [hs, row.stateCycles_eq] at hcnt
    refine .inr ⟨h0, cyclesLeft_count ?_ ?_⟩ <;> rw [hs, row.stateCycles_eq]
    · omega
    · exact (row.duration hw).2
  case count row hs hl hd =>
    rw [hs, row.stateCycles_eq] at hcnt
    refine .inr ⟨h0, cyclesLeft_count ?_ ?_⟩ <;> rw [hs, row.stateCycles_eq]
    · omega
    · exact hTimeout
  case respLow hs hl => exact .inr (progresses_of_leave St.respHigh hcnt hs rfl rfl (by decide) (cyclesAfter_respLow _).ge)
  case respHigh hs hl => exact .inr (progresses_of_leave St.respEnd hcnt hs rfl rfl (by decide) (cyclesAfter_respHigh _).ge)
  case respEnd hs hl => exact .inr (progresses_of_leave St.bitLow hcnt hs rfl rfl (by decide) (le_cyclesAfter_respEnd _))
  case bitLow hs hl =>
    exact .inr (progresses_of_leave St.bitHigh hcnt hs rfl rfl (by decide) (cyclesAfter_bitLow (hb.bits (.inl hs))).ge)
  case bitHigh hs hl =>
    have h39 := hb.bits (.inr hs)
    by_cases hlast : b.bitIdx = 39#6
    · refine .inr (progresses_of_leave St.check hcnt hs rfl (if_pos hlast) (by decide) ?_)
      rw [hlast]
      exact cyclesAfter_last_bit _
    · have hlt : b.bitIdx.toNat < 39 := lt_of_le_of_ne h39 fun e => hlast (BitVec.eq_of_toNat_eq e)
      refine .inr (progresses_of_leave St.bitLow hcnt hs rfl (if_neg hlast) (by decide) ?_)
      rw [bitIdx_succ h39, cyclesAfter_bitHigh hlt]

/-! ### The transaction as a whole -/

/-- From `s` a completion event that is no hit comes within `n` cycles, and every cycle before it is busy. -/
def CompletesWithin (n : Nat) (s : State) : Prop :=
  ∃ k t, 0 < k ∧ k ≤ n ∧ run k s = .next t ∧ t.block.done = true ∧ t.block.hit = false ∧ t.block.st = St.ready ∧
    ∀ j u, 0 < j → j < k → run j s = .next u → u.block.busy = true

/-- One cycle into a busy state adds one to the cycles it completes within. -/
theorem CompletesWithin.of_step (h : CompletesWithin n t) (hs : step s = .next t) (hb : t.block.busy = true) :
    CompletesWithin (n + 1) s := by
  obtain ⟨k, u, -, hk, hrun, hdone, hhit, hst, hbusy⟩ := h
  refine ⟨k + 1, u, k.succ_pos, by omega, (run_succ k hs).trans hrun, hdone, hhit, hst, fun j v _ hj hv => ?_⟩
  obtain ⟨j, rfl⟩ : ∃ m, j = m + 1 := ⟨j - 1, by omega⟩
  rw [run_succ j hs] at hv
  cases j with
  | zero => cases hv; exact hb
  | succ j => exact hbusy (j + 1) v j.succ_pos (by omega) hv

/-- A transaction completes within the cycles left, by induction on them: each cycle completes it or leaves fewer. -/
theorem completesWithin_cyclesLeft (hi : Inv s) (h0 : s.block.st ≠ St.ready)
    (hn : s.block.cyclesLeft s.params ≤ n) (hr : s.noReset n) : CompletesWithin n s := by
  induction n generalizing s with
  | zero =>
    have := hi.inTime.cnt h0
    rw [Block.cyclesLeft] at hn
    omega
  | succ n ih =>
    obtain ⟨c, hc, hstep⟩ := hi.step_transfer hr.head
    have hinTime : s.block.clearDone.InTime s.params := { hi.inTime with }
    rcases hc.completes_or_progresses hi.params_wf hinTime h0 with ⟨hst, hdone, hhit⟩ | ⟨hbusy, hlt⟩
    · refine ⟨1, _, Nat.one_pos, by omega, run_succ 0 hstep, hdone, hhit, hst, fun j u hj hj' => ?_⟩
      omega
    · have hleft : c.cyclesLeft s.params ≤ n := Nat.le_of_lt_succ (lt_of_lt_of_le hlt hn)
      exact (ih (stepKeepsTheInvariant _ _ hi hstep) hbusy hleft hr.tail).of_step hstep (bne_iff_ne.2 hbusy)

/-- Settles O33: acceptance enters `SETTLE` with one cycle of the bound gone; the transaction completes within the rest. -/
theorem everyTransactionCompletesWithinTheBound : Obligations.EveryTransactionCompletesWithinTheBound := by
  intro s hi ha hr
  obtain ⟨b, hstep, hst, hcnt⟩ := step_of_accepts hi ha
  have hbound : b.cyclesLeft s.params + 1 = transactionBound s.params := cyclesLeft_of_accepted hst hcnt
  have h0 : b.st ≠ St.ready := by rw [hst]; decide
  rw [← hbound] at hr ⊢
  exact (completesWithin_cyclesLeft (stepKeepsTheInvariant _ _ hi hstep) h0 le_rfl hr.tail).of_step hstep
    (bne_iff_ne.2 h0)

end Sys2Proof.Machine

/-! A line that never changes is reported (41_capture.md R139). -/

namespace Sys2Proof.Machine

open Sys2Proof.Claims

variable {s t : State} {st next : StateCode} {level x : Bool} {code : FailCode}
  {l rest : List Bool} {d k n : Nat}

/-! ### Along a run -/

/-- A step keeps the parameters (R7). -/
theorem step_params (h : step s = .next t) : t.params = s.params := (stepKeepsTheParameters _ s t h).1

/-- A run keeps the parameters. -/
theorem run_params (h : run n s = .next t) : t.params = s.params := by
  induction n generalizing s with
  | zero => cases h; rfl
  | succ n ih =>
    obtain ⟨u, hu, hrun⟩ := run_succ_next_iff.1 h
    exact (ih hrun).trans (step_params hu)

/-- A step uses up the first sample. -/
theorem Reads.of_step (h : Reads s (x :: rest)) (hs : Machine.step s = .next t) : Reads t rest := by
  obtain ⟨c, rfl, hc⟩ := step_latches_sync h.rst hs
  refine ⟨stepKeepsTheInvariant _ _ h.inv hs, State.noReset.tail h.noReset, fun n hn => ?_⟩
  rw [sampleAt_advance_latch hc]
  exact h.samples (n + 1) (Nat.succ_lt_succ hn)

/-- A run uses up as many samples as it has cycles. -/
theorem Reads.of_run (h : Reads s l) (hn : n ≤ l.length) (hrun : run n s = .next t) : Reads t (l.drop n) := by
  induction n generalizing s l with
  | zero => cases hrun; exact h
  | succ n ih =>
    obtain ⟨u, hu, hrun'⟩ := run_succ_next_iff.1 hrun
    cases l with
    | nil => cases hn
    | cons x rest => exact ih (h.of_step hu) (Nat.le_of_succ_le_succ hn) hrun'

/-! ### Into a state -/

/-- After `n` cycles the machine enters `st`: it is there with `CNT` = 0. -/
def Enters (n : Nat) (s : State) (st : StateCode) : Prop :=
  ∃ t, run n s = .next t ∧ t.block.st = st ∧ t.block.cnt = 0

/-- After `n` cycles the machine shows the failure `code` (R163). -/
def Fails (n : Nat) (s : State) (code : FailCode) : Prop :=
  ∃ t, run n s = .next t ∧ t.block.done = true ∧ t.block.ok = false ∧ t.block.err = code.bits ∧ t.block.st = St.ready

/-- A timed phase takes its duration, whatever the samples (R104 to R106). -/
theorem Reads.timedPhase (h : Reads s l) (row : TimedRow s.params st d next) (hl : n + d ≤ l.length)
    (he : Enters n s st) : Enters (n + d) s next := by
  obtain ⟨u, hrun, hst, hcnt⟩ := he
  have hu := h.of_run (by omega) hrun
  have hr : u.noReset d := fun k hk => hu.noReset k (by rw [List.length_drop]; omega)
  rw [← run_params hrun] at row
  obtain ⟨-, t, hrun', hnext, hzero⟩ := lastsExactly_of_timedRow row hu.inv.params_wf hu.inv.unreserved hst hcnt hr
  exact ⟨t, (run_add n d hrun).trans hrun', hnext, hzero⟩

/-- An accepted request is in `RESP_LOW` after the three timed phases (R102, R104 to R106). -/
theorem Reads.toResponse (h : Reads s l) (ha : s.accepts = true)
    (hl : 1 + s.params.tIdle + s.params.tStart + s.params.tRelease ≤ l.length) :
    Enters (1 + s.params.tIdle + s.params.tStart + s.params.tRelease) s St.respLow := by
  obtain ⟨b, hstep, hst, hcnt⟩ := step_of_accepts h.inv ha
  have hsettle : Enters 1 s St.settle := ⟨_, run_succ 0 hstep, hst, hcnt⟩
  have hstart := h.timedPhase .settle (by omega) hsettle
  have hrelease := h.timedPhase .start (by omega) hstart
  exact h.timedPhase .release hl hrelease

/-- The low sample that ends `RESP_LOW` (R107). -/
theorem Reads.endRespLow (h : Reads s l) (hl : n ≤ l.length) (hx : l.drop n = false :: rest)
    (he : Enters n s St.respLow) : Enters (n + 1) s St.respHigh := by
  obtain ⟨u, hrun, hst, hcnt⟩ := he
  have hu := h.of_run hl hrun
  rw [hx] at hu
  have hc := stateOp_respLow (p := u.params) (i := u.inputs) (b := u.block.clearDone) hst
  rw [measure_exits (b := u.block.clearDone) _ (by simp [hu.sample])] at hc
  obtain ⟨hstep, -⟩ := hu.step hc
  exact ⟨_, (run_add n 1 hrun).trans (run_succ 0 hstep), rfl, rfl⟩

/-- The `T_TIMEOUT`-th sample at the measured level is the failure (R130). -/
theorem measure_expires {p : Params} {b : Block} (exit : Block → Block) (hl : b.sync2 = level)
    (hd : b.cnt = p.tTimeout - 1) : b.measure p level code exit = b.fail code := by
  simp [Block.measure, Block.sample, hl, hd]

/-- A measurement that expires shows its failure in the next cycle (R163). -/
theorem Reads.expire (h : Reads s (level :: rest)) (row : MeasureRow s.block.st level code)
    (hd : s.block.cnt = s.params.tTimeout - 1) : Fails 1 s code := by
  obtain ⟨exit, hc⟩ := stateOp_measures (p := s.params) (i := s.inputs) (b := s.block.clearDone) row rfl
  rw [measure_expires (b := s.block.clearDone) exit h.sample hd] at hc
  obtain ⟨hstep, -⟩ := h.step hc
  exact ⟨_, run_succ 0 hstep, rfl, rfl, rfl, rfl⟩

/-- A measuring state that sees nothing but its level fails after `T_TIMEOUT` cycles (R130). -/
theorem Reads.timeout (h : Reads s l) (row : MeasureRow st level code) (hl : n ≤ l.length)
    (hx : l.drop n = List.replicate s.params.tTimeout level ++ rest) (he : Enters n s st) :
    Fails (n + s.params.tTimeout) s code := by
  obtain ⟨-, -, -, hT, -⟩ := wf_iff.1 h.inv.params_wf
  obtain ⟨m, hm⟩ : ∃ m, s.params.tTimeout = m + 1 := ⟨s.params.tTimeout - 1, by omega⟩
  obtain ⟨u, hrun, rfl, hcnt⟩ := he
  have hu := h.of_run hl hrun
  have hp : u.params = s.params := run_params hrun
  rw [hx, hm, List.replicate_succ', List.append_assoc] at hu
  obtain ⟨v, hrun', hv, hcap⟩ := hu.pulse row (by show u.block.cnt + m < u.params.tTimeout; rw [hcnt, hp]; omega)
  have hvst : v.block.st = u.block.st := congrArg Capture.st hcap
  have hvcnt : v.block.cnt = u.block.cnt + m := congrArg Capture.cnt hcap
  have hvp : v.params = u.params := congrArg Capture.params hcap
  obtain ⟨t, hstep, hfail⟩ := Reads.expire hv (hvst ▸ row) (by rw [hvcnt, hvp, hcnt, hp]; omega)
  refine ⟨t, ?_, hfail⟩
  rw [hm, run_add _ _ hrun, run_add _ _ hrun', hstep]

/-! ### A line that is held -/

/-- With the line held at `level` the samples are those in the synchronizer, and then `level` (R31). -/
theorem reads_of_held (hi : Inv s) (hr : s.noReset (n + 2)) (hline : ∀ k, k < n + 2 → (s.inputAt k).dqIn = level) :
    Reads s (s.block.sync2 :: s.block.sync1 :: List.replicate n level) where
  inv := hi
  noReset := by simpa using hr
  samples
    | 0, _ => rfl
    | 1, _ => rfl
    | m + 2, hm => by
      have hm' : m < n := by simpa using hm
      simp [State.sampleAt, hm', hline m (by omega)]

/-- Past the synchronizer's own two samples, `k` samples of a held line are `k` times its level. -/
theorem drop_held {x y : Bool} (hk : d + k ≤ n) :
    (x :: y :: List.replicate n level).drop (d + 2) =
      List.replicate k level ++ List.replicate (n - d - k) level := by
  rw [List.drop_succ_cons, List.drop_succ_cons, List.drop_replicate, List.replicate_append_replicate]
  congr 1
  omega

/-- Settles O34: the three timed phases outlast the synchronizer's own samples. A high line then times out in `RESP_LOW`; a
low one ends `RESP_LOW` in one cycle and times out in `RESP_HIGH`. -/
theorem constantLineIsReported : Obligations.ConstantLineIsReported := by
  intro s hi ha hr
  obtain ⟨hIdle, hStart, hRelease, hT, -⟩ := wf_iff.1 hi.params_wf
  obtain ⟨m, hm⟩ : ∃ m, 1 + s.params.tIdle + s.params.tStart + s.params.tRelease = m + 2 :=
    ⟨s.params.tIdle + s.params.tStart + s.params.tRelease - 1, by omega⟩
  have hbound : transactionBound s.params = (m + 1 + 83 * s.params.tTimeout) + 2 := by rw [transactionBound]; omega
  rw [hbound] at hr ⊢
  refine ⟨fun hline => ?_, fun hline => ?_⟩
  · have h := reads_of_held hi hr hline
    have hresp := h.toResponse ha (by simp; omega)
    rw [hm] at hresp ⊢
    exact h.timeout .respLow (by simp; omega) (drop_held (by omega)) hresp
  · have h := reads_of_held hi hr hline
    have hresp := h.toResponse ha (by simp; omega)
    rw [hm] at hresp
    have hhigh := h.endRespLow (by simp; omega) (drop_held (k := 1) (by omega)) hresp
    rw [show 2 + s.params.tIdle + s.params.tStart + s.params.tRelease = m + 1 + 2 by omega]
    exact h.timeout .respHigh (by simp) (drop_held (by omega)) hhigh

end Sys2Proof.Machine

/-! `CHECK`, the success commit and the failure commit (42_check_commit.md R160 to R163, 60_exceptions.md R200). -/

namespace Sys2Proof.Machine

open Sys2Proof.Claims

variable {s : State} {st : StateCode} {level : Bool} {code : FailCode}

/-! ### The checksum's cycle -/

/-- A checksum that holds is the success commit (R161). -/
theorem step_of_check_commits (h : inState s St.check) (hk : sumMatches s.block.sr) :
    step s = .next (s.advance (succeeded s)) := by
  obtain ⟨hr, hst, hu⟩ := h
  have hop := stateOp_check_commits (p := s.params) (i := s.inputs) (b := s.block.clearDone) hst
    ((checksumOk_iff_sumMatches _).2 hk)
  exact step_of_unreserved hr hu hop

/-- One that does not hold is the failure commit with the code of R162. -/
theorem step_of_check_fails (h : inState s St.check) (hk : ¬ sumMatches s.block.sr) :
    step s = .next (s.advance (failed s 4#3)) := by
  obtain ⟨hr, hst, hu⟩ := h
  have hop := stateOp_check_fails (p := s.params) (i := s.inputs) (b := s.block.clearDone) hst
    ((checksumOk_eq_false_iff _).2 hk)
  exact step_of_unreserved hr hu hop

/-- Settles O29: the row of the state `CHECK` is `CHECK`, and its step is the commit the checksum decides. -/
theorem checkVerifiesAndCommits : Obligations.CheckVerifiesAndCommits := by
  intro s h
  refine ⟨fun hk => ?_, fun hk => ?_⟩
  · exact runsTo_decodeState h.1 h.2.1 (by decide) (step_of_check_commits h hk)
  · exact runsTo_decodeState h.1 h.2.1 (by decide) (step_of_check_fails h hk)

/-! ### The four causes -/

/-- A measurement that expires is the failure commit with its code (R130, R163). -/
theorem step_of_expired (hr : s.inputs.rst = false) (hu : s.block.unreserved) (row : MeasureRow st level code)
    (hst : s.block.st = st) (hl : s.block.sync2 = level) (hd : s.block.cnt = s.params.tTimeout - 1) :
    step s = .next (s.advance (failed s code.bits)) := by
  obtain ⟨exit, hop⟩ := stateOp_measures (p := s.params) (i := s.inputs) (b := s.block.clearDone) row hst
  rw [measure_expires (b := s.block.clearDone) exit hl hd] at hop
  exact step_of_unreserved hr hu hop

/-- Each cause is a measurement that expires, or the checksum's failure (R200). -/
theorem causes_cases (h : causes s code) :
    (∃ st level, MeasureRow st level code ∧ s.block.st = st ∧ s.block.sync2 = level ∧
        s.block.cnt = s.params.tTimeout - 1) ∨
      (code = .checksum ∧ s.block.st = St.check ∧ ¬ sumMatches s.block.sr) := by
  cases code
  case noStartLow => exact .inl ⟨_, _, .respLow, h⟩
  case noStartHigh => exact .inl (h.elim (fun h => ⟨_, _, .respHigh, h⟩) fun h => ⟨_, _, .respEnd, h⟩)
  case bitTimeout => exact .inl (h.elim (fun h => ⟨_, _, .bitLow, h⟩) fun h => ⟨_, _, .bitHigh, h⟩)
  case checksum => exact .inr ⟨rfl, h⟩

/-- A cause makes the cycle the failure commit with its code (R163, R200). -/
theorem step_of_causes (hr : s.inputs.rst = false) (hu : s.block.unreserved) (h : causes s code) :
    step s = .next (s.advance (failed s (codeOf code))) := by
  rcases causes_cases h with ⟨st, level, row, hst, hl, hd⟩ | ⟨rfl, hst, hk⟩
  · rw [codeOf_eq_bits]
    exact step_of_expired hr hu row hst hl hd
  · exact step_of_check_fails ⟨hr, hst, hu⟩ hk

/-- A start failure comes before any bit is captured (R107 to R109, R206). -/
theorem Inv.bitIdx_of_startFailure (hi : Inv s) (h : causes s .noStartLow ∨ causes s .noStartHigh) :
    s.block.bitIdx = 0#6 := by
  refine hi.handshake_bits ?_
  rcases h with ⟨hst, -⟩ | ⟨hst, -⟩ | ⟨hst, -⟩ <;> rw [hst] <;> rfl

/-- A bit that times out is one of the forty (R133, R206). -/
theorem Inv.bitIdx_of_bitTimeout (hi : Inv s) (h : causes s .bitTimeout) : s.block.bitIdx.toNat ≤ 39 :=
  hi.capturing_bits (h.imp And.left And.left)

/-- Settles O30: the causes are the expiring measurements and the failed checksum, each a step of its own; of the
completions of O31 only the failure commit leaves both `HIT` and `OK` at 0; and the invariant has `BITIDX` by `ST`. -/
theorem failuresAreExactlyTheFourCauses : Obligations.FailuresAreExactlyTheFourCauses := by
  intro s hr
  refine ⟨fun code hu h => step_of_causes hr hu h, fun t h hdone hhit hok => ?_, fun hi => ?_⟩
  · obtain ⟨-, hcompletion⟩ := resultRegistersChangeTogether s t h hr
    obtain ⟨-, ⟨-, rfl⟩ | ⟨-, -, rfl⟩ | hfail⟩ := hcompletion hdone
    · cases hhit
    · cases hok
    · exact hfail
  · exact ⟨hi.bitIdx_of_startFailure, hi.bitIdx_of_bitTimeout, fun h => hi.check_bits h.1⟩

end Sys2Proof.Machine

/-! What the checksum catches (42_check_commit.md R160, 95_test_vectors.md L1.1). -/

namespace Sys2Proof.Machine

/-- Above the last byte of `x ++ b` stand the bits of `x`. -/
theorem extractLsb'_append_byte {w : Nat} (x : BitVec w) (b : BitVec 8) (n : Nat) :
    (x ++ b).extractLsb' (n + 8) 8 = x.extractLsb' n 8 := by
  rw [BitVec.extractLsb'_append_eq_of_le (Nat.le_add_left 8 n), Nat.add_sub_cancel]

/-- The bytes of a frame written as five bytes: dropping the bytes after it leaves byte `k` last (R51). -/
theorem byteOf_append (b0 b1 b2 b3 b4 : BitVec 8) :
    byteOf (b0 ++ b1 ++ b2 ++ b3 ++ b4) 0 = b0 ∧ byteOf (b0 ++ b1 ++ b2 ++ b3 ++ b4) 1 = b1 ∧
      byteOf (b0 ++ b1 ++ b2 ++ b3 ++ b4) 2 = b2 ∧ byteOf (b0 ++ b1 ++ b2 ++ b3 ++ b4) 3 = b3 ∧
      byteOf (b0 ++ b1 ++ b2 ++ b3 ++ b4) 4 = b4 := by
  have drop4 (n : Nat) := extractLsb'_append_byte (b0 ++ b1 ++ b2 ++ b3) b4 n
  have drop3 (n : Nat) := extractLsb'_append_byte (b0 ++ b1 ++ b2) b3 n
  have drop2 (n : Nat) := extractLsb'_append_byte (b0 ++ b1) b2 n
  have drop1 (n : Nat) := extractLsb'_append_byte b0 b1 n
  refine ⟨?_, ?_, ?_, ?_, BitVec.extractLsb'_append_eq_right⟩
  · exact (drop4 24).trans <| (drop3 16).trans <| (drop2 8).trans <| (drop1 0).trans BitVec.extractLsb'_eq_self
  · exact (drop4 16).trans <| (drop3 8).trans <| (drop2 0).trans BitVec.extractLsb'_append_eq_right
  · exact (drop4 8).trans <| (drop3 0).trans BitVec.extractLsb'_append_eq_right
  · exact (drop4 0).trans BitVec.extractLsb'_append_eq_right

/-- The checksum sum over bytes 0 to 3, as a sum over an index. -/
theorem sum8_eq_sum (v : Frame) : sum8 v = ∑ k : Fin 4, byteOf v k.castSucc := by
  rw [Fin.sum_univ_four]
  rfl

/-- Bytes are flipped where the mask says. -/
theorem byteOf_xor (v mask : Frame) (k : Fin 5) : byteOf (v ^^^ mask) k = byteOf v k ^^^ byteOf mask k :=
  BitVec.extractLsb'_xor

/-- A single bit at 8 to 39 stands in exactly one of bytes 0 to 3, and not in byte 4 (R51). -/
theorem byteOf_single_bit :
    ∀ j : Fin 40, 8 ≤ j.val →
      byteOf (1#40 <<< j.val) 4 = 0#8 ∧
        ∃ k : Fin 4, byteOf (1#40 <<< j.val) k.castSucc ≠ 0#8 ∧
          ∀ m : Fin 4, m ≠ k → byteOf (1#40 <<< j.val) m.castSucc = 0#8 := by
  decide

/-- A mask that touches one of bytes 0 to 3 and no other changes the sum: all other summands stay. -/
theorem sum8_xor_ne {v mask : Frame} {k : Fin 4} (hk : byteOf mask k.castSucc ≠ 0#8)
    (hm : ∀ m : Fin 4, m ≠ k → byteOf mask m.castSucc = 0#8) : sum8 (v ^^^ mask) ≠ sum8 v := by
  have hrest : ∑ m ∈ Finset.univ.erase k, byteOf (v ^^^ mask) m.castSucc =
      ∑ m ∈ Finset.univ.erase k, byteOf v m.castSucc :=
    Finset.sum_congr rfl fun m h => by rw [byteOf_xor, hm m (Finset.ne_of_mem_erase h), BitVec.xor_zero]
  intro heq
  rw [sum8_eq_sum, sum8_eq_sum, ← Finset.add_sum_erase _ _ (Finset.mem_univ k),
    ← Finset.add_sum_erase Finset.univ (fun m : Fin 4 => byteOf v m.castSucc) (Finset.mem_univ k), hrest,
    add_left_inj, byteOf_xor] at heq
  exact hk ((BitVec.xor_right_inj (byteOf v k.castSucc)).1 (heq.trans BitVec.xor_zero.symm))

/-- Settles O35: the fifth byte is by construction the sum; and a flipped bit changes one summand and not the fifth byte. -/
theorem checksumCatchesEverySingleBitFlip : Obligations.ChecksumCatchesEverySingleBitFlip := by
  refine ⟨fun b0 b1 b2 b3 => ?_, fun v j hj hv => ?_⟩
  · obtain ⟨h0, h1, h2, h3, h4⟩ := byteOf_append b0 b1 b2 b3 (b0 + b1 + b2 + b3)
    rw [checksumOk, sum8, h0, h1, h2, h3, h4, beq_self_eq_true]
  · obtain ⟨h4, k, hk, hm⟩ := byteOf_single_bit j hj
    rw [checksumOk, beq_iff_eq] at hv
    rw [checksumOk, beq_eq_false_iff_ne, byteOf_xor, h4, BitVec.xor_zero, hv]
    exact (sum8_xor_ne hk hm).symm

end Sys2Proof.Machine

/-! The Reading Cache (43_cache.md R181 to R187). -/

namespace Sys2Proof.Machine

open Sys2Proof.Claims

variable {s t : State} {n : Nat}

/-! ### The row a request selects -/

/-- The condition of the selected row holds: what tells rows of one word apart (R74, R75). -/
theorem selected_wf (s : State) : s.selected.wf s.selectCtx = true := by
  have hcommand : s.command.wf s.selectCtx = true := (decodeCommand_row s.selectCtx s.cmdVector).2.1
  have hmicroOp : s.microOp.wf s.selectCtx = true := (decodeState_row s.selectCtx s.block.st).2.1
  rw [State.selected]
  split
  · exact hcommand
  · split
    · exact hmicroOp
    · exact hcommand

/-- Only a block with the cache, and with nothing fresh in it, misses (R183). -/
theorem stale_of_selected_miss (h : s.selected = .reqSampleMiss) : s.params.cacheEn = true ∧ ¬ isFresh s := by
  have hwf : s.params.cacheEn = true ∧ s.block.fresh s.params s.inputs.nowMs = false := by
    simpa [h, Instr.wf, State.selectCtx] using selected_wf s
  refine ⟨hwf.1, ?_⟩
  rw [← fresh_iff_isFresh, hwf.2]
  exact Bool.false_ne_true

section Request

variable (hr : s.inputs.rst = false) (hs : s.block.st = St.ready) (hq : s.inputs.req = true)
  (hc : s.params.cacheEn = true)

include hr hs hq hc

/-- A request to a fresh cache selects the hit (R182). -/
theorem selected_of_fresh (hf : isFresh s) : s.selected = .reqSampleHit := by
  simp [selected_of_ready hr hs, hq, hc, (fresh_iff_isFresh s).2 hf]

/-- A request to a stale cache selects the miss (R183). -/
theorem selected_of_stale (hf : ¬ isFresh s) : s.selected = .reqSampleMiss := by
  simp [selected_of_ready hr hs, hq, hc, mt (fresh_iff_isFresh s).1 hf]

end Request

/-! ### One request -/

/-- Settles O16: the machine's freshness in whole numbers. -/
theorem freshMeansLessThanTMinElapsed : Obligations.FreshMeansLessThanTMinElapsed := fresh_iff_isFresh

/-- Settles O17: the hit's step is that of `READY`, and its transfer leaves `ST`, so the pad is the one of `READY` twice. -/
theorem freshRequestIsAHit : Obligations.FreshRequestIsAHit := by
  intro s h hc hf
  have ⟨⟨hr, hs, _⟩, hq⟩ := h
  exact ⟨runsTo_of_step (selected_of_fresh hr hs hq hc hf) (step_of_ready_hit h hc hf), padIs_of_padOf hs rfl,
    padIs_of_padOf (st := St.ready) hs rfl⟩

/-- Settles O18: the miss is selected, and its step is that of `READY`. -/
theorem staleRequestIsAMiss : Obligations.StaleRequestIsAMiss := by
  intro s h hc hf
  have ⟨⟨hr, hs, _⟩, hq⟩ := h
  exact runsTo_of_step (selected_of_stale hr hs hq hc hf) (step_of_ready_miss h hc hf)

/-- Settles O19: with the clock below `LAST_T` nothing is fresh, so the request is the miss. -/
theorem clockGoingBackForcesAMiss : Obligations.ClockGoingBackForcesAMiss := by
  intro s h hc hback
  have hstale : ¬ isFresh s := fun ⟨_, hle, _⟩ => hle.not_gt hback
  obtain ⟨hsel, -, hstep⟩ := staleRequestIsAMiss s h hc hstale
  exact ⟨hsel, _, hstep, rfl, rfl⟩

/-! ### What sets `LAST_T` and `HAS_RUN` -/

/-- Only a reset selects `RST`. -/
theorem noReset_of_selected_ne_rst (h : s.selected ≠ .rst) : s.inputs.rst = false :=
  Bool.eq_false_iff.2 fun hr => h (selected_of_rst hr)

/-- A reset clears the cache's state (R240). -/
theorem cache_of_step_rst (hsel : s.selected = .rst) (h : step s = .next t) :
    t.block.lastT = 0#32 ∧ t.block.hasRun = false := by
  rw [step, hsel, exec_rst] at h
  cases h
  exact ⟨rfl, rfl⟩

/-- A miss stamps it (R183). -/
theorem cache_of_step_miss (hsel : s.selected = .reqSampleMiss) (h : step s = .next t) :
    t.block.lastT = s.inputs.nowMs ∧ t.block.hasRun = true := by
  rw [step, hsel, exec_reqSampleMiss, tick_next_iff] at h
  obtain ⟨-, rfl⟩ := h
  exact ⟨rfl, rfl⟩

/-- Every other row leaves it: the one other transfer that writes it is the miss's own (R187). -/
theorem cache_of_step_other (hrst : s.selected ≠ .rst) (hmiss : s.selected ≠ .reqSampleMiss) (h : step s = .next t) :
    t.block.lastT = s.block.lastT ∧ t.block.hasRun = s.block.hasRun := by
  have hr := noReset_of_selected_ne_rst hrst
  obtain ⟨c, hc, rfl⟩ := step_transfer_of_noReset hr h
  cases hc
  case miss hs hq hce hf =>
    have hstale : ¬ isFresh s := by
      rw [← fresh_iff_isFresh, ← fresh_clearDone, hf]
      exact Bool.false_ne_true
    exact absurd (selected_of_stale hr hs hq hce hstale) hmiss
  all_goals exact ⟨rfl, rfl⟩

/-- Settles O20: the reset, the miss and every other row, one lemma each. -/
theorem cacheStateSetOnlyByResetAndMiss : Obligations.CacheStateSetOnlyByResetAndMiss := by
  intro s t h
  by_cases hrst : s.selected = .rst
  · exact .inl ⟨hrst, cache_of_step_rst hrst h⟩
  by_cases hmiss : s.selected = .reqSampleMiss
  · exact .inr (.inl ⟨hmiss, cache_of_step_miss hmiss h⟩)
  · exact .inr (.inr ⟨hrst, hmiss, cache_of_step_other hrst hmiss h⟩)

/-! ### The throttle -/

/-- A run with no reset and no miss leaves the cache's state (R187). -/
theorem cache_of_run (h : run n s = .next t)
    (hrows : ∀ k v, k < n → run k s = .next v → v.selected ≠ .rst ∧ v.selected ≠ .reqSampleMiss) :
    t.block.lastT = s.block.lastT ∧ t.block.hasRun = s.block.hasRun := by
  induction n generalizing s with
  | zero =>
    cases h
    exact ⟨rfl, rfl⟩
  | succ n ih =>
    obtain ⟨u, hu, hrun⟩ := run_succ_next_iff.1 h
    obtain ⟨hrst, hmiss⟩ := hrows 0 s n.succ_pos rfl
    obtain ⟨hlastT, hhasRun⟩ := cache_of_step_other hrst hmiss hu
    obtain ⟨hlastT', hhasRun'⟩ := ih hrun fun k v hk hv => hrows (k + 1) v (Nat.succ_lt_succ hk) ((run_succ k hu).trans hv)
    exact ⟨hlastT'.trans hlastT, hhasRun'.trans hhasRun⟩

/-- Settles O21: up to the request the cache holds the miss's timestamp, so freshness there is being within `T_MIN` of it. -/
theorem throttleAllowsOneTransactionPerInterval : Obligations.ThrottleAllowsOneTransactionPerInterval := by
  intro s s' u n hsel hstep hrun hrows
  have hparams : u.params = s.params := (run_params hrun).trans (step_params hstep)
  have hcache : u.params.cacheEn = true := hparams ▸ (stale_of_selected_miss hsel).1
  obtain ⟨hlastT, hhasRun⟩ := cache_of_step_miss hsel hstep
  obtain ⟨hlastT', hhasRun'⟩ := cache_of_run hrun hrows
  have hfresh : isFresh u ↔ s.inputs.nowMs.toNat ≤ u.inputs.nowMs.toNat ∧
      u.inputs.nowMs.toNat < s.inputs.nowMs.toNat + s.params.tMin := by
    rw [isFresh, hlastT'.trans hlastT, hhasRun'.trans hhasRun, hparams]
    exact ⟨fun ⟨_, hle, hlt⟩ => ⟨hle, by omega⟩, fun ⟨hle, hlt⟩ => ⟨rfl, hle, by omega⟩⟩
  refine ⟨fun hr hq hs hle hlt => selected_of_fresh hr hs hq hcache (hfresh.2 ⟨hle, hlt⟩), fun hmiss => ?_⟩
  have hstale := (stale_of_selected_miss hmiss).2
  rw [hfresh] at hstale
  omega

end Sys2Proof.Machine

/-! No cycle stops (60_exceptions.md R200, R202), and the exclusive window is released (R209, R210). -/

namespace Sys2Proof.Machine

variable {s t : State} {p : Params} {i : Inputs} {b c : Block}

/-- Settles O11: a reset answers always, and any other cycle has a register transfer and finds no reserved value. -/
theorem stepAlwaysAnswersUnderTheInvariant : Obligations.StepAlwaysAnswersUnderTheInvariant := by
  intro s hi
  cases hr : s.inputs.rst
  case true => exact ⟨_, step_of_rst hr⟩
  case false =>
    obtain ⟨c, -, hstep⟩ := hi.step_transfer hr
    exact ⟨_, hstep⟩

/-! ### The exclusive window -/

/-- R209 as a proposition. -/
theorem crit_iff : b.crit p = true ↔ p.strategy = .A ∧ (b.st = St.bitLow ∨ b.st = St.bitHigh) := by
  simp only [Block.crit, Bool.and_eq_true, Bool.or_eq_true, beq_iff_eq]

/-- Into bit capture leads only `RESP_END` (R109). -/
theorem Transfer.capturing_source (h : Transfer p i b c) (hc : c.st = St.bitLow ∨ c.st = St.bitHigh) :
    b.st = St.respEnd ∨ b.st = St.bitLow ∨ b.st = St.bitHigh := by
  cases h
  case respEnd hs _ => exact .inl hs
  case bitLow hs _ => exact .inr (.inl hs)
  case bitHigh hs _ => exact .inr (.inr hs)
  case idle | hit | wait | count => exact .inr hc
  case leave row _ _ => cases row <;> simp at hc
  all_goals simp at hc

/-- Out of bit capture leads only the fortieth bit, into `CHECK`, or a timeout, into `READY` (R133, R137, R163). -/
theorem Transfer.capturing_target (h : Transfer p i b c) (hb : b.st = St.bitLow ∨ b.st = St.bitHigh) :
    (c.st = St.bitLow ∨ c.st = St.bitHigh) ∨ c.st = St.check ∨ c.st = St.ready := by
  cases h
  case bitHigh => exact (ite_eq_or_eq _ St.check St.bitLow).elim (fun h => .inr (.inl h)) fun h => .inl (.inl h)
  case bitLow => exact .inl (.inr rfl)
  case expire | commit | reject => exact .inr (.inr rfl)
  case idle | hit | wait | count => exact .inl hb
  case leave row hs _ => cases row <;> simp [hs] at hb
  all_goals simp [*] at hb

/-- Settles O38: where a transfer enters and leaves bit capture; a reset ends in `READY`, and so does a completion event. -/
theorem exclusiveWindowIsAlwaysReleased : Obligations.ExclusiveWindowIsAlwaysReleased := by
  intro s t hi h
  have hdone (hd : t.block.done = true) : t.block.crit t.params = false :=
    crit_eq_false ((stepKeepsTheInvariant s t hi h).done_ready hd) rfl
  rcases step_transfer h with ⟨-, rfl⟩ | ⟨-, -, c, hc, rfl⟩
  · have hreset : Block.reset.crit s.params = false := crit_eq_false rfl rfl
    exact ⟨fun _ hrise => absurd (hreset.symm.trans hrise) Bool.false_ne_true, fun _ _ => .inr rfl, hdone⟩
  · refine ⟨fun hout hin => ?_, fun hin hout => ?_, hdone⟩
    · obtain ⟨hA, hst⟩ := crit_iff.1 hin
      rcases hc.capturing_source hst with hst' | hst'
      · exact ⟨hst', hA⟩
      · exact absurd (hout.symm.trans (crit_iff.2 ⟨hA, hst'⟩)) Bool.false_ne_true
    · obtain ⟨hA, hst⟩ := crit_iff.1 hin
      rcases hc.capturing_target hst with hst' | hst'
      · exact absurd (hout.symm.trans (crit_iff.2 ⟨hA, hst'⟩)) Bool.false_ne_true
      · exact hst'

end Sys2Proof.Machine

/-! The platform clock is read only where a request is decided with the cache present (10_state.md R34, 60_exceptions.md R212). -/

namespace Sys2Proof.Machine

variable {s : State} {p : Params} {i j : Inputs} {b : Block} {rest : List Inputs} {now : Stamp}
  {op : Params → Inputs → Block → Block}

/-- A cycle depends on its inputs only through its micro-operation and the line. -/
theorem tick_inputs (hp : s.pending = i :: rest) (hdq : j.dqIn = i.dqIn)
    (hop : op s.params j s.block.clearDone = op s.params i s.block.clearDone) :
    State.tick { s with pending := j :: rest } op = s.tick op := by
  have hj : State.inputs { s with pending := j :: rest } = j := rfl
  simp only [State.tick, advance_inputs hp, hj, inputs_of_pending hp, hdq, hop]

/-- With no request, and with no cache, `READY` does not read the clock (R101, R102). -/
theorem readyOp_nowMs (h : i.req = false ∨ p.cacheEn = false) :
    readyOp p { i with nowMs := now } b = readyOp p i b := by
  rcases h with hq | hc
  · simp [readyOp, hq]
  · simp [readyOp, hc]

/-- In `READY` the step without reset is one cycle of `readyOp`, reserved values or not (R100). -/
theorem step_eq_tick_of_ready (hr : s.inputs.rst = false) (hs : s.block.st = St.ready) : step s = s.tick readyOp := by
  rw [← exec_ready_eq_step hr hs, exec_ready]

/-- With a reset the step reads no other input (R240). -/
theorem step_inputs_of_rst (hp : s.pending = i :: rest) (hi : i.rst = true) (hj : j.rst = true) :
    step { s with pending := j :: rest } = step s := by
  have hr : s.inputs.rst = true := by rw [inputs_of_pending hp, hi]
  rw [step_of_rst hr, step_of_rst (s := { s with pending := j :: rest }) hj, advance_inputs hp]

/-- In `READY` a step without reset reads of its inputs only the line and what decides the request. -/
theorem step_inputs_of_ready (hs : s.block.st = St.ready) (hp : s.pending = i :: rest) (hi : i.rst = false)
    (hj : j.rst = false) (hdq : j.dqIn = i.dqIn)
    (hop : readyOp s.params j s.block.clearDone = readyOp s.params i s.block.clearDone) :
    step { s with pending := j :: rest } = step s := by
  have hr : s.inputs.rst = false := by rw [inputs_of_pending hp, hi]
  rw [step_eq_tick_of_ready hr hs, step_eq_tick_of_ready (s := { s with pending := j :: rest }) hj hs,
    tick_inputs hp hdq hop]

/-- Settles O41: a reset reads no other input, a busy state only the line, and `READY` the clock only to look into the cache. -/
theorem platformClockReadOnlyWhenDeciding : Obligations.PlatformClockReadOnlyWhenDeciding := by
  intro s i rest now hp h
  by_cases hs : s.block.st = St.ready
  case neg => exact step_inputs_of_busy hs hp rfl rfl
  cases hr : i.rst
  case true => exact step_inputs_of_rst hp hr rfl
  case false =>
    have hquiet : i.req = false ∨ s.params.cacheEn = false := by simpa [hr, hs] using h
    exact step_inputs_of_ready hs hp hr rfl rfl (readyOp_nowMs hquiet)

end Sys2Proof.Machine

/-! Reset (70_reset_and_hazards.md R240, R242, R243): one cycle, any number of them, and the first request after them. -/

namespace Sys2Proof.Machine

open Sys2Proof.Claims

variable {s : State} {n : Nat}

/-- The machine's reset registers are the table of R240. -/
theorem block_reset_eq_resetBlock : Block.reset = resetBlock := rfl

/-- The registers of the table show the outputs of an idle `READY`, under any parameters (R35). -/
theorem outputs_of_resetBlock (hb : s.block = resetBlock) :
    s.outputs =
      some { pad := { oe := false, o := false, pu := true }, busy := false, done := false, ok := false, hit := false,
             err := 0#3, data := 0#40, crit := false, dbgState := 0#4, dbgBitIdx := 0#6 } := by
  have hcrit : resetBlock.crit s.params = false := crit_eq_false (st := St.ready) rfl rfl
  rw [outputs_of_padOf (pad := Pad.released) (by rw [hb]; rfl), hb, hcrit]
  rfl

/-- Settles O1: the row `RST` reads no register, `rst` = 1 selects it, and the outputs read only the table. -/
theorem resetGivesEveryRegisterItsResetValue : Obligations.ResetGivesEveryRegisterItsResetValue := by
  intro s
  rw [← block_reset_eq_resetBlock]
  exact ⟨exec_rst s, fun hr => runsTo_of_step (selected_of_rst hr) (step_of_rst hr), outputs_of_resetBlock rfl⟩

/-- However long the reset is held, its last cycle leaves the reset registers (R242). -/
theorem run_succ_of_rst (hrst : ∀ j, j < n + 1 → (s.inputAt j).rst = true) :
    ∃ t, run (n + 1) s = .next t ∧ t.block = resetBlock := by
  induction n generalizing s with
  | zero => exact ⟨_, run_succ 0 (step_of_rst (hrst 0 Nat.one_pos)), rfl⟩
  | succ n ih =>
    have hstep : step s = .next (s.advance Block.reset) := step_of_rst (hrst 0 (n + 1).succ_pos)
    have hrest : ∀ j, j < n + 1 → ((s.advance Block.reset).inputAt j).rst = true := fun j hj => by
      rw [inputAt_advance]
      exact hrst (j + 1) (Nat.succ_lt_succ hj)
    rw [run_succ (n + 1) hstep]
    exact ih hrest

/-- After a reset nothing is fresh: `HAS_RUN` = 0 (R181). -/
theorem not_isFresh_of_resetBlock (hb : s.block = resetBlock) : ¬ isFresh s := by
  rintro ⟨hrun, -⟩
  rw [hb] at hrun
  cases hrun

/-- Settles O2: the run ends in the reset registers, which are in `READY` with nothing fresh, so a request is decided by
`CACHE_EN` alone. -/
theorem resetHeldKeepsTheResetState : Obligations.ResetHeldKeepsTheResetState := by
  intro s k hk hrst
  obtain ⟨n, rfl⟩ := Nat.exists_eq_add_one_of_ne_zero hk.ne'
  obtain ⟨t, hrun, hb⟩ := run_succ_of_rst hrst
  have hparams : t.params = s.params := run_params hrun
  have hready : t.block.st = St.ready := by rw [hb]; rfl
  refine ⟨t, hrun, hb, hparams, fun hr hq hc => ?_, fun hr hq hc => ?_⟩
  · exact selected_of_stale hr hready hq (hparams ▸ hc) (not_isFresh_of_resetBlock hb)
  · simp [selected_of_ready hr hready, hq, hparams, hc]

end Sys2Proof.Machine
